-- ==== Sys2Proof/Word.lean ====
section
/-! DEFINITION. The bit-vector types of the block: a sample or byte, a 16-bit register, a cipher word
(spec 00_scope R13, 10_state R25). -/

namespace Sys2Proof

/-- An 8-bit sample of the host's buffer (R60) or a byte of `RAW` (R31). -/
abbrev Byte := BitVec 8

/-- A 16-bit register: the checksum register (R25). -/
abbrev Half := BitVec 16

/-- A 32-bit word of the cipher (R192). -/
abbrev Word := BitVec 32

end Sys2Proof
end

