-- ==== Sys2Proof/Config.lean ====
section
/-! DEFINITION. What an instance of the block is configured with (10_state R22, R23) and the values the spec
leaves open: the OPEN parameters (D8) and the registers it leaves unspecified after reset (R37, U11).
An `opaque` constant has no body, so no proof can lean on its value. -/

namespace Sys2Proof

/-- How `XTEA.UNPACK` packs bytes into words (CFG4, R65). -/
inductive ByteOrder where
  | le
  | be
  deriving DecidableEq, Repr

/-- The index mapping of the cipher's write-back (CFG11, R200). -/
inductive WbOrder where
  | revWord
  | revBlock
  | natural
  deriving DecidableEq, Repr

/-- A register file of four key words, `key[0]` being the word index 0 selects (R23). -/
abbrev Key := Vector Word 4

/-- Which of the two key register files an operation is given (R23). -/
inductive KeySel where
  | a
  | b
  deriving DecidableEq, Repr

/-- The read-only configuration constants that may differ between instances (R22). `CIPHER_OFF_B` is always
`CIPHER_OFF_A + 8` and the legal offsets are 0 .. 13, so a configuration that U7 refuses cannot be written. -/
structure Config where
  /-- CFG0: the 24 payload bits of the synchronization pattern. -/
  sync24 : BitVec 24
  /-- CFG1: the key of the first cipher region. -/
  keyA : Key
  /-- CFG2: the key of the second cipher region. -/
  keyB : Key
  /-- CFG3: the cipher's round count, any natural number. -/
  rounds : Nat
  /-- CFG4. -/
  byteOrder : ByteOrder
  /-- CFG9: where the first cipher region starts in `RAW`. -/
  cipherOffA : Fin 14
  /-- CFG11. -/
  wbOrder : WbOrder
  deriving DecidableEq, Repr

/-- The value of `SYNC24`, OPEN (R10, D8). -/
opaque Config.openSync24 : BitVec 24

/-- The value of `KEY_A`, OPEN (R10, D8). -/
opaque Config.openKeyA : Key

/-- The value of `KEY_B`, OPEN (R10, D8). -/
opaque Config.openKeyB : Key

/-! Registers that R37 leaves unspecified after reset: free values (DESIGN CHOICE, log 4). -/

/-- `WIN` after reset. -/
opaque Unspecified.win : BitVec 464

/-- `PB` after reset. -/
opaque Unspecified.pb : BitVec 232

/-- `RAW` after reset. -/
opaque Unspecified.raw : Vector Byte 29

/-- `CRC` after reset. -/
opaque Unspecified.crc : Half

/-- `V0` after reset. -/
opaque Unspecified.v0 : Word

/-- `V1` after reset. -/
opaque Unspecified.v1 : Word

/-- `SUM` after reset. -/
opaque Unspecified.sum : Word

/-- `LCERR` after reset. -/
opaque Unspecified.lcerr : Bool

/-- `CRCOK` after reset. -/
opaque Unspecified.crcok : Bool

end Sys2Proof
end

