-- ==== Sys2Proof/Syntax.lean ====
section
/-! DEFINITION. The operations of the block as syntax: one constructor per row of spec/opcode_table.json, in the
table's order (30_encoding R110, R92), with the operands of the operation's own rule as arguments. -/

namespace Sys2Proof

/-- One operation of the datapath (R110), or one symbol pair given to the line-code decoder (R92). -/
inductive Instr where
  /-- DECODE.CALL(buf, n): one decode call over the first `n` samples of the presented buffer (R252). -/
  | decodeCall (n : Nat)
  /-- FRAME.PROCESS (R250). -/
  | frameProcess
  /-- SYNC.MATCH(i) (R131). -/
  | syncMatch (i : Nat)
  /-- SYNC.SCAN (R134). -/
  | syncScan
  /-- SYNC.WINDOW(i) (R136). -/
  | syncWindow (i : Nat)
  /-- SYNC.CONSUME (R138). -/
  | syncConsume
  /-- LC.SYM(a, b) (R151). -/
  | lcSym (a b : Bool)
  /-- LC.VALIDATE (R153). -/
  | lcValidate
  /-- LC.COLLAPSE (R155). -/
  | lcCollapse
  /-- LC.PACK (R157). -/
  | lcPack
  /-- LC.DECODE (R159). -/
  | lcDecode
  /-- CRC.INIT (R171). -/
  | crcInit
  /-- CRC.BIT(d) (R172). -/
  | crcBit (d : Bool)
  /-- CRC.BYTE(b) (R174). -/
  | crcByte (b : Byte)
  /-- CRC.FINAL (R176). -/
  | crcFinal
  /-- CRC.CHECK (R178). -/
  | crcCheck
  /-- XTEA.UNPACK(o) (R194). -/
  | xteaUnpack (o : Nat)
  /-- XTEA.DROUND(key) (R196). -/
  | xteaDround (key : KeySel)
  /-- XTEA.DEC(key, rounds) (R198). -/
  | xteaDec (key : KeySel) (rounds : Nat)
  /-- XTEA.WB(o) (R200). -/
  | xteaWb (o : Nat)
  /-- CIPHER.BLOCK(o, key) (R202). -/
  | cipherBlock (o : Nat) (key : KeySel)
  /-- CIPHER.FRAME (R203). -/
  | cipherFrame
  /-- XTEA.EROUND(key) (R204). -/
  | xteaEround (key : KeySel)
  /-- XTEA.ENC(key, rounds) (R206). -/
  | xteaEnc (key : KeySel) (rounds : Nat)
  /-- FX.ID (R221). -/
  | fxId
  /-- FX.IDHEX (R222). -/
  | fxIdhex
  /-- FX.LAT (R223). -/
  | fxLat
  /-- FX.LON (R224). -/
  | fxLon
  /-- FX.ALT (R225). -/
  | fxAlt
  /-- FX.VS (R226). -/
  | fxVs
  /-- FX.STEALTH (R227). -/
  | fxStealth
  /-- FX.TYPE (R228). -/
  | fxType
  /-- FX.NS (R229). -/
  | fxNs
  /-- FX.EW (R230). -/
  | fxEw
  /-- FX.FRAME (R231). -/
  | fxFrame
  /-- SYM.ZERO: the symbol pair `01`, payload bit 0 (R92). -/
  | symZero
  /-- SYM.ONE: the symbol pair `10`, payload bit 1 (R92). -/
  | symOne
  /-- SYM.ILLEGAL00: the symbol pair `00`, a line-code violation (R92). -/
  | symIllegal00
  /-- SYM.ILLEGAL11: the symbol pair `11`, a line-code violation (R92). -/
  | symIllegal11
  deriving DecidableEq, Repr

/-- How a row of the table is named for the decoder, which finds its constructor; the machine itself takes no such word
(R111). The spec gives an operation an 8-bit number and no bits for its operands, which are values; a symbol pair is two
samples (R92). DESIGN CHOICE (log 1). -/
inductive OpWord where
  /-- An operation number (R110) with its operands in the order its rule lists them. -/
  | op (code : BitVec 8) (operands : List Nat)
  /-- A symbol pair, the sample of lower offset first. -/
  | sym (first second : Bool)
  deriving DecidableEq, Repr

/-- Why the decoder rejects a word. -/
inductive DecodeError where
  /-- The number is no row of the operation table. -/
  | reservedCode (code : BitVec 8)
  /-- The number of operands is not the operation's. -/
  | operandCount (code : BitVec 8)
  /-- An operand is outside the range its rule gives. -/
  | operandRange (code : BitVec 8)
  deriving DecidableEq, Repr

end Sys2Proof
end

