-- ==== Sys2Proof/WellFormed.lean ====
section
/-! DEFINITION. The one bound on operands that does not depend on the state: an 8-byte cipher region lies in
`RAW[0..28]`, so its offset is at most 21 (43_cipher R194). -/

namespace Sys2Proof

/-- The largest offset of an 8-byte region of the 29-byte frame buffer (R194). -/
abbrev maxRegionOffset : Nat := 21

/-- An operation whose operands are in the ranges its rule gives. -/
def Instr.wellFormed : Instr → Bool
  | .xteaUnpack o => decide (o ≤ maxRegionOffset)
  | .xteaWb o => decide (o ≤ maxRegionOffset)
  | .cipherBlock o _ => decide (o ≤ maxRegionOffset)
  | .decodeCall _ | .frameProcess | .syncMatch _ | .syncScan | .syncWindow _ | .syncConsume
  | .lcSym _ _ | .lcValidate | .lcCollapse | .lcPack | .lcDecode
  | .crcInit | .crcBit _ | .crcByte _ | .crcFinal | .crcCheck
  | .xteaDround _ | .xteaDec _ _ | .cipherFrame | .xteaEround _ | .xteaEnc _ _
  | .fxId | .fxIdhex | .fxLat | .fxLon | .fxAlt | .fxVs | .fxStealth | .fxType | .fxNs | .fxEw | .fxFrame
  | .symZero | .symOne | .symIllegal00 | .symIllegal11 => true

end Sys2Proof
end

