-- ==== Sys2Proof/Decode.lean ====
section
/-! DEFINITION. Reading an operation from its number and operands (30_encoding R110, R111; opcode_table.json) or a
symbol from its two samples (R92), and the encoder that writes them. -/

namespace Sys2Proof

/-! Operand forms of the decoder. Each takes the operation number only to name it in a rejection. -/

/-- No operand. -/
def noOperand (c : BitVec 8) (i : Instr) : List Nat → Except DecodeError Instr
  | [] => .ok i
  | _ => .error (.operandCount c)

/-- One natural number: a sample offset or a count. -/
def natOperand (c : BitVec 8) (f : Nat → Instr) : List Nat → Except DecodeError Instr
  | [n] => .ok (f n)
  | _ => .error (.operandCount c)

/-- A one-bit operand is 0 or 1. -/
def toBit (c : BitVec 8) : Nat → Except DecodeError Bool
  | 0 => .ok false
  | 1 => .ok true
  | _ => .error (.operandRange c)

/-- A key register file: 0 is `KEY_A`, 1 is `KEY_B` (DESIGN CHOICE, log 1). -/
def toKey (c : BitVec 8) : Nat → Except DecodeError KeySel
  | 0 => .ok .a
  | 1 => .ok .b
  | _ => .error (.operandRange c)

/-- One bit. -/
def bitOperand (c : BitVec 8) (f : Bool → Instr) : List Nat → Except DecodeError Instr
  | [d] => (toBit c d).map f
  | _ => .error (.operandCount c)

/-- Two bits. -/
def bitsOperand (c : BitVec 8) (f : Bool → Bool → Instr) : List Nat → Except DecodeError Instr
  | [a, b] =>
    match toBit c a, toBit c b with
    | .ok x, .ok y => .ok (f x y)
    | _, _ => .error (.operandRange c)
  | _ => .error (.operandCount c)

/-- One byte. -/
def byteOperand (c : BitVec 8) (f : Byte → Instr) : List Nat → Except DecodeError Instr
  | [b] => if b < 256 then .ok (f (BitVec.ofNat 8 b)) else .error (.operandRange c)
  | _ => .error (.operandCount c)

/-- One key register file. -/
def keyOperand (c : BitVec 8) (f : KeySel → Instr) : List Nat → Except DecodeError Instr
  | [k] => (toKey c k).map f
  | _ => .error (.operandCount c)

/-- A key register file and a round count. -/
def keyRoundsOperand (c : BitVec 8) (f : KeySel → Nat → Instr) : List Nat → Except DecodeError Instr
  | [k, r] => (toKey c k).map fun key => f key r
  | _ => .error (.operandCount c)

/-- A byte offset of a cipher region. -/
def offsetOperand (c : BitVec 8) (f : Nat → Instr) : List Nat → Except DecodeError Instr
  | [o] => if o ≤ maxRegionOffset then .ok (f o) else .error (.operandRange c)
  | _ => .error (.operandCount c)

/-- A byte offset of a cipher region and a key register file. -/
def offsetKeyOperand (c : BitVec 8) (f : Nat → KeySel → Instr) : List Nat → Except DecodeError Instr
  | [o, k] => if o ≤ maxRegionOffset then (toKey c k).map (f o) else .error (.operandRange c)
  | _ => .error (.operandCount c)

/-- The operation table (R110), by operation number. -/
def decodeOp (c : BitVec 8) : List Nat → Except DecodeError Instr :=
  match c.toNat with
  | 0x00 => natOperand c .decodeCall
  | 0x01 => noOperand c .frameProcess
  | 0x10 => natOperand c .syncMatch
  | 0x11 => noOperand c .syncScan
  | 0x12 => natOperand c .syncWindow
  | 0x13 => noOperand c .syncConsume
  | 0x20 => bitsOperand c .lcSym
  | 0x21 => noOperand c .lcValidate
  | 0x22 => noOperand c .lcCollapse
  | 0x23 => noOperand c .lcPack
  | 0x24 => noOperand c .lcDecode
  | 0x30 => noOperand c .crcInit
  | 0x31 => bitOperand c .crcBit
  | 0x32 => byteOperand c .crcByte
  | 0x33 => noOperand c .crcFinal
  | 0x34 => noOperand c .crcCheck
  | 0x40 => offsetOperand c .xteaUnpack
  | 0x41 => keyOperand c .xteaDround
  | 0x42 => keyRoundsOperand c .xteaDec
  | 0x43 => offsetOperand c .xteaWb
  | 0x44 => offsetKeyOperand c .cipherBlock
  | 0x45 => noOperand c .cipherFrame
  | 0x46 => keyOperand c .xteaEround
  | 0x47 => keyRoundsOperand c .xteaEnc
  | 0x50 => noOperand c .fxId
  | 0x51 => noOperand c .fxIdhex
  | 0x52 => noOperand c .fxLat
  | 0x53 => noOperand c .fxLon
  | 0x54 => noOperand c .fxAlt
  | 0x55 => noOperand c .fxVs
  | 0x56 => noOperand c .fxStealth
  | 0x57 => noOperand c .fxType
  | 0x58 => noOperand c .fxNs
  | 0x59 => noOperand c .fxEw
  | 0x5A => noOperand c .fxFrame
  | _ => fun _ => .error (.reservedCode c)

/-- The symbol table (R92): two legal pairs, two illegal ones. -/
def decodeSym : Bool → Bool → Instr
  | false, true => .symZero
  | true, false => .symOne
  | false, false => .symIllegal00
  | true, true => .symIllegal11

/-- The decoder, total on every word, rejecting by name. -/
def decode : OpWord → Except DecodeError Instr
  | .op code operands => decodeOp code operands
  | .sym first second => .ok (decodeSym first second)

/-- The number a key register file is written as (DESIGN CHOICE, log 1). -/
def keyNumber : KeySel → Nat
  | .a => 0
  | .b => 1

/-- The word of an operation, from the same tables (R110, R92). -/
def encode : Instr → OpWord
  | .decodeCall n => .op 0x00 [n]
  | .frameProcess => .op 0x01 []
  | .syncMatch i => .op 0x10 [i]
  | .syncScan => .op 0x11 []
  | .syncWindow i => .op 0x12 [i]
  | .syncConsume => .op 0x13 []
  | .lcSym a b => .op 0x20 [a.toNat, b.toNat]
  | .lcValidate => .op 0x21 []
  | .lcCollapse => .op 0x22 []
  | .lcPack => .op 0x23 []
  | .lcDecode => .op 0x24 []
  | .crcInit => .op 0x30 []
  | .crcBit d => .op 0x31 [d.toNat]
  | .crcByte b => .op 0x32 [b.toNat]
  | .crcFinal => .op 0x33 []
  | .crcCheck => .op 0x34 []
  | .xteaUnpack o => .op 0x40 [o]
  | .xteaDround key => .op 0x41 [keyNumber key]
  | .xteaDec key rounds => .op 0x42 [keyNumber key, rounds]
  | .xteaWb o => .op 0x43 [o]
  | .cipherBlock o key => .op 0x44 [o, keyNumber key]
  | .cipherFrame => .op 0x45 []
  | .xteaEround key => .op 0x46 [keyNumber key]
  | .xteaEnc key rounds => .op 0x47 [keyNumber key, rounds]
  | .fxId => .op 0x50 []
  | .fxIdhex => .op 0x51 []
  | .fxLat => .op 0x52 []
  | .fxLon => .op 0x53 []
  | .fxAlt => .op 0x54 []
  | .fxVs => .op 0x55 []
  | .fxStealth => .op 0x56 []
  | .fxType => .op 0x57 []
  | .fxNs => .op 0x58 []
  | .fxEw => .op 0x59 []
  | .fxFrame => .op 0x5A []
  | .symZero => .sym false true
  | .symOne => .sym true false
  | .symIllegal00 => .sym false false
  | .symIllegal11 => .sym true true

/-- How many operands the operation of a number takes. -/
def operandCount (c : BitVec 8) : Nat :=
  match c.toNat with
  | 0x00 | 0x10 | 0x12 | 0x31 | 0x32 | 0x40 | 0x41 | 0x43 | 0x46 => 1
  | 0x20 | 0x42 | 0x44 | 0x47 => 2
  | _ => 0

/-- The word of a row of opcode_table.json with bits `w`, every operand zero. A row of two bits is a symbol pair,
bit 1 its first sample (R92). The symbols `10` and `11` padded to a byte are 2 and 3, no operation's number, and
are read as the symbols too; `00` and `01` so padded are the numbers of DECODE.CALL and FRAME.PROCESS
(DESIGN CHOICE, log 1). -/
def tableWord (nbits w : Nat) : OpWord :=
  if nbits ≤ 2 ∨ w = 2 ∨ w = 3 then
    .sym (w.testBit 1) (w.testBit 0)
  else
    .op (BitVec.ofNat 8 w) (List.replicate (operandCount (BitVec.ofNat 8 w)) 0)

/-- What the decoder reads from a row of opcode_table.json. -/
def decodeTableWord (nbits w : Nat) : Option Instr :=
  (decode (tableWord nbits w)).toOption

end Sys2Proof
end

