-- ==== Sys2Proof/Machine/Constants.lean ====
section
/-! DEFINITION. The constants of the wire contract (00_scope R9) and the configuration of the protocol
(10_state R22, 70_reset_and_hazards R314). -/

namespace Sys2Proof.Machine

/-- `CRC_POLY`, the 16 low coefficients of the polynomial (CFG6). -/
def crcPoly : Half := 0x1021

/-- `CRC_INIT` (CFG7). -/
def crcInitValue : Half := 0xFFFF

/-- `CRC_XOROUT` (CFG8). -/
def crcXorOut : Half := 0x9335

/-- `DELTA` (CFG5). -/
def delta : Word := 0x9E3779B9

/-- `WINDOW_BITS`: the samples of a Frame Window (R9). -/
abbrev windowBits : Nat := 464

/-- `SYNC_BITS`: the samples of the synchronization pattern (R9). -/
abbrev syncBits : Nat := 48

/-- `RETAIN`: the samples the host must keep (R9). -/
abbrev retain : Nat := 463

/-- The configuration of the protocol (R22): the open parameters stay open, the others have the values R22 gives. -/
def protocolConfig : Config where
  sync24 := Config.openSync24
  keyA := Config.openKeyA
  keyB := Config.openKeyB
  rounds := 6
  byteOrder := .le
  cipherOffA := 7
  wbOrder := .revWord

end Sys2Proof.Machine
end

