-- ==== Sys2Proof/Machine/State.lean ====
section
/-! DEFINITION. The state of the block: configuration constants, the sample space, the sequencing state, the working
registers, the flags, the outputs (10_state R22 to R37), and the model's own latches for operation results. -/

namespace Sys2Proof.Machine

/-- The stage of the decode engine (R30). -/
inductive Stage where
  /-- No call in progress. -/
  | idle
  /-- Looking for the next match. -/
  | scan
  /-- The line-code decoder works on `WIN`. -/
  | lc
  /-- The checksum validator works on `RAW`. -/
  | crc
  /-- The cipher works on the first region. -/
  | decA
  /-- The cipher works on the second region. -/
  | decB
  /-- The field extractor works on `RAW`. -/
  | fx
  deriving DecidableEq, Repr

/-- The three failure kinds (R270). All of them are absorbed inside a decode call; none stops the machine. -/
inductive Failure where
  /-- Code 1: some symbol pair of the window has two equal samples (R271). -/
  | lineCodeViolation
  /-- Code 2: the checksum residue is not zero (R272). -/
  | checksumMismatch
  /-- Code 3: fewer than 464 samples are available (R273). -/
  | insufficientData
  deriving DecidableEq, Repr

/-- The result of LC.SYM (R151). -/
inductive SymResult where
  | payload (bit : Bool)
  | violation
  deriving DecidableEq, Repr

/-- The Decoded Frame record (R33, R104). The signed fields are held in two's complement. -/
structure Record where
  id : BitVec 24
  lat : BitVec 16
  lon : BitVec 16
  alt : BitVec 13
  vs : BitVec 16
  stealth : Bool
  type : BitVec 4
  ns : Vector Byte 4
  ew : Vector Byte 4
  deriving DecidableEq, Repr, Inhabited

/-- The working registers of the cipher: `V0`, `V1`, `SUM` (R25). -/
structure Block where
  v0 : Word
  v1 : Word
  sum : Word
  deriving DecidableEq, Repr

/-- `REC` after reset: the spec gives no value (DESIGN CHOICE, log 4). -/
opaque Unspecified.record : Record

/-- The state of one instance of the block. -/
@[ext]
structure State where
  /-- The configuration constants (R22): the space `CONST` of R31. No operation writes them. -/
  cfg : Config
  /-- The space `SAMPLE` (R31) as sorted (offset, sample) cells; an unlisted offset is a sample 0x00 (log 5). -/
  sample : List Host.Cell
  /-- How many samples the presented buffer holds (the model's own, log 5). -/
  held : Nat
  /-- The buffers the host supplier will present, the next first (the model's own, log 5). -/
  inbox : List (List Byte)
  /-- The number of samples handed to this call (R25). -/
  navail : Nat
  /-- The cursor (R25, R29). -/
  cur : Nat
  /-- Where in the fixed order the engine is (R30). -/
  stage : Stage
  /-- The current Frame Window: bit `k` is `WIN[k]` (R25). -/
  win : BitVec 464
  /-- The collapsed payload bits: bit `k` is `PB[k]` (R25). -/
  pb : BitVec 232
  /-- The frame buffer (R25, R26). -/
  raw : Vector Byte 29
  /-- The checksum register (R25). -/
  crc : Half
  /-- The first word of the cipher block (R25). -/
  v0 : Word
  /-- The second word of the cipher block (R25). -/
  v1 : Word
  /-- The running sum of the cipher (R25). -/
  sum : Word
  /-- Flag: a symbol pair of `WIN` has two equal samples (R27). -/
  lcerr : Bool
  /-- Flag: the checksum residue is zero (R27). -/
  crcok : Bool
  /-- The record under construction (R33). -/
  record : Record
  /-- Output: the records emitted by the call (R32). -/
  frames : List Record
  /-- Output: the samples that may be dropped (R32). -/
  consumed : Nat
  /-- The result m of SYNC.MATCH (log 2). -/
  matched : Bool
  /-- The result found of SYNC.SCAN (log 2). -/
  found : Bool
  /-- The result i of SYNC.SCAN (log 2). -/
  foundAt : Nat
  /-- The result of LC.SYM and of a symbol pair (log 2). -/
  symbol : SymResult
  /-- The result of FX.IDHEX (log 2). -/
  text : Vector Char 6
  /-- The failure kind raised by the last LC.DECODE, FRAME.PROCESS or DECODE.CALL, if any (log 2). -/
  failure : Option Failure
  deriving DecidableEq, Repr

/-- How a step can stop because an access leaves a space of R31. The block itself never stops so (R274): inside a
decode call no such access occurs. -/
inductive Fault where
  /-- Raised by SYNC.MATCH and SYNC.WINDOW when the samples they read are not all below `NAVAIL`
  (R61: a model may refuse such a read). Safe: nothing follows. -/
  | sampleBeyondCount
  /-- Raised by XTEA.UNPACK, XTEA.WB and CIPHER.BLOCK when the 8-byte region is not inside `RAW[0..28]` (R194).
  Safe: nothing follows. -/
  | rawBeyondFrame
  deriving DecidableEq, Repr

/-- What the model declines to run. -/
inductive Refusal where
  /-- Raised by exec's arm for an operation that has no meaning yet. Safe. -/
  | notModelled (mnemonic : String)
  /-- Raised by DECODE.CALL for a count larger than the buffer holds, which U13 puts outside the spec. Safe. -/
  | countBeyondBuffer
  deriving DecidableEq, Repr

/-- What an operation answers. -/
abbrev Result := Host.Outcome State Fault Refusal

/-- The machine right after reset (R37, R310): `STAGE` idle, `FRAMES` empty, the constants as configured, the
working registers unspecified (free values, log 4), the counts zero (log 6), nothing presented (log 5). -/
def State.reset : State where
  cfg := protocolConfig
  sample := []
  held := 0
  inbox := []
  navail := 0
  cur := 0
  stage := .idle
  win := Unspecified.win
  pb := Unspecified.pb
  raw := Unspecified.raw
  crc := Unspecified.crc
  v0 := Unspecified.v0
  v1 := Unspecified.v1
  sum := Unspecified.sum
  lcerr := Unspecified.lcerr
  crcok := Unspecified.crcok
  record := Unspecified.record
  frames := []
  consumed := 0
  matched := false
  found := false
  foundAt := 0
  symbol := .violation
  text := #v['0', '0', '0', '0', '0', '0']
  failure := none

end Sys2Proof.Machine
end

