-- ==== Sys2Proof/Machine/Ops.lean ====
section
/-! DEFINITION. The named operations over the spaces of R31: the sample buffer, which the block only reads (R62),
and the frame buffer `RAW`; and what a failure does (60_exceptions R277). -/

namespace Sys2Proof.Machine

/-! The sample space. -/

/-- What an offset with no cell reads as: a sample 0x00 (log 5). -/
def unlistedSample : Byte := 0

/-- `MemRead(SAMPLE, a, 1)` (R15, R60). -/
def Memory.read : List Host.Cell → Nat → Byte
  | [], _ => unlistedSample
  | (b, v) :: m, a => if b = a then v else Memory.read m a

/-- The cells of a buffer whose first sample has offset `a`: a sample 0x00 needs no cell (log 5). -/
def Memory.load : Nat → List Byte → List Host.Cell
  | _, [] => []
  | a, v :: vs => if v = unlistedSample then Memory.load (a + 1) vs else (a, v) :: Memory.load (a + 1) vs

/-- The canonical form: offsets strictly rising, and no cell that an absent cell would read as. -/
def Memory.wf : List Host.Cell → Bool
  | [] => true
  | [(_, v)] => v != unlistedSample
  | (a, v) :: (b, w) :: m => v != unlistedSample && decide (a < b) && Memory.wf ((b, w) :: m)

/-- `bit(a) = MemRead(SAMPLE, a, 1)[0]`: the only part of a sample any rule uses (R60). -/
@[irreducible] def sampleBit (s : State) (a : Nat) : Bool := (Memory.read s.sample a).getLsbD 0

/-- The host supplier presents a buffer (R20, R318 H-1): it becomes the sample space. -/
def present (buf : List Byte) (rest : List (List Byte)) (s : State) : State :=
  { s with sample := Memory.load 0 buf, held := buf.length, inbox := rest }

/-! The frame buffer. -/

/-- Byte `j` of the 8-byte region at `o` (`MemRead(RAW, o, 8)`, R15). -/
def regionByte (raw : Vector Byte 29) (o : Fin 22) (j : Fin 8) : Byte :=
  raw[o.val + j.val]

/-- `MemWrite(RAW, o, 8, v)`: the region at `o` gets the eight bytes `v 0 .. v 7`, every other byte stays (R200). -/
@[irreducible] def writeRegion (raw : Vector Byte 29) (o : Fin 22) (v : Fin 8 → Byte) : Vector Byte 29 :=
  Vector.ofFn fun k : Fin 29 =>
    if h : o.val ≤ k.val ∧ k.val < o.val + 8 then v ⟨k.val - o.val, by omega⟩ else raw[k.val]

/-- The two cipher regions: `CIPHER_OFF_A`, and 8 bytes later `CIPHER_OFF_B` (R11). -/
def regionA (c : Config) : Fin 22 := ⟨c.cipherOffA.val, by omega⟩

/-- See `regionA`. -/
def regionB (c : Config) : Fin 22 := ⟨c.cipherOffA.val + 8, by omega⟩

/-- Telemetry byte `T[a] = RAW[3 + a]` (R98). -/
def telem (raw : Vector Byte 29) (a : Fin 24) : Byte := raw[3 + a.val]

/-! Failures (the analogue of taking an exception). -/

/-- `raise f`: processing of the window, or of the call, ends with failure kind `f`. Nothing is saved, no control is
transferred, no mode changes (R277); the kind stands in the model's own latch (log 2). -/
def raise (f : Failure) (s : State) : State := { s with failure := some f }

/-- The end of an operation that raised nothing, and of a decode call, which absorbs the failures of its windows
(R252, R279: there is no return and nothing to restore). -/
def noFailure (s : State) : State := { s with failure := none }

/-- `emit(rec)`: the record joins the end of the call's output list (R15, R32). -/
def emit (s : State) : State := { s with frames := s.frames ++ [s.record] }

end Sys2Proof.Machine
end

