-- ==== Sys2Proof/Machine/Operands.lean ====
section
/-! DEFINITION. Operand forms: words from bytes and bytes from words (R65, R66), the key word an index selects (R196),
the synchronization pattern (R94), the signed reading of a byte (R13), a hexadecimal digit (R105). -/

namespace Sys2Proof.Machine

/-- `LE32`: the byte of lowest index is the least significant (R15). -/
def le32 (b0 b1 b2 b3 : Byte) : Word := b3 ++ b2 ++ b1 ++ b0

/-- `BE32`: the byte of lowest index is the most significant (R15). -/
def be32 (b0 b1 b2 b3 : Byte) : Word := b0 ++ b1 ++ b2 ++ b3

/-- Four bytes as a word, in the configured byte order (R65). -/
def packWord : ByteOrder → Byte → Byte → Byte → Byte → Word
  | .le, b0, b1, b2, b3 => le32 b0 b1 b2 b3
  | .be, b0, b1, b2, b3 => be32 b0 b1 b2 b3

/-- Byte `j` of a word, byte 0 the least significant: `w[8j+7 : 8j]` (R66). -/
def wordByte (w : Word) (j : Nat) : Byte := w.extractLsb' (8 * j) 8

/-- The key register file an operation is given (R23). -/
def keyFile (c : Config) : KeySel → Key
  | .a => c.keyA
  | .b => c.keyB

/-- `key[k]` for a two-bit index (R196). -/
def keyWord (key : Key) (k : BitVec 2) : Word := key[k.toNat]'(k.isLt)

/-- `SYNC48 = LC(SYNC24)`, most significant bit first (R94): sample `2k` is the bit, sample `2k+1` its complement. -/
def sync48 (c : Config) (k : Fin 48) : Bool :=
  if k.val % 2 = 0 then c.sync24.getMsbD (k.val / 2) else !c.sync24.getMsbD (k.val / 2)

/-- `s8(b)`: `b` when `b < 0x80`, else `b - 0x100` (R13). -/
def s8 (b : Byte) : Int := if b.toNat < 0x80 then b.toNat else (b.toNat : Int) - 0x100

/-- A nibble as one of `0123456789abcdef` (R105). -/
def hexDigit (n : BitVec 4) : Char := Nat.digitChar n.toNat

end Sys2Proof.Machine
end

