-- ==== Sys2Proof/Machine/Cipher.lean ====
section
/-! DEFINITION. The Block Cipher Engine (43_cipher): the XTEA operations on words, their packing from and back into
`RAW`, and CIPHER.BLOCK and CIPHER.FRAME. Words wrap modulo 2^32 and record nothing (R192). -/

namespace Sys2Proof.Machine

/-- The mixing function `MX(v, s, k)` (R191). -/
def mx (v s k : Word) : Word := (((v <<< 4) ^^^ (v >>> 5)) + v) ^^^ (s + k)

/-- The key index of the `V1` update: bits 12:11 of the sum (R196). -/
def highIndex (sum : Word) : BitVec 2 := sum.extractLsb' 11 2

/-- The key index of the `V0` update: bits 1:0 of the sum (R196). -/
def lowIndex (sum : Word) : BitVec 2 := sum.extractLsb' 0 2

/-- One decryption round; the three assignments are sequential (R196). -/
def droundBlock (key : Key) (b : Block) : Block :=
  let v1 := b.v1 - mx b.v0 b.sum (keyWord key (highIndex b.sum))
  let sum := b.sum - delta
  let v0 := b.v0 - mx v1 sum (keyWord key (lowIndex sum))
  { v0 := v0, v1 := v1, sum := sum }

/-- One encryption round (R204). -/
def eroundBlock (key : Key) (b : Block) : Block :=
  let v0 := b.v0 + mx b.v1 b.sum (keyWord key (lowIndex b.sum))
  let sum := b.sum + delta
  let v1 := b.v1 + mx v0 sum (keyWord key (highIndex sum))
  { v0 := v0, v1 := v1, sum := sum }

/-- `n` rounds. -/
def repeatRound (round : Block → Block) : Nat → Block → Block
  | 0, b => b
  | n + 1, b => repeatRound round n (round b)

/-- The sum a decryption starts with: `DELTA * rounds` modulo 2^32 (R198). -/
def startSum (rounds : Nat) : Word := delta * BitVec.ofNat 32 rounds

/-- XTEA.DEC on the words (R198). -/
@[irreducible] def decBlock (key : Key) (rounds : Nat) (v0 v1 : Word) : Block :=
  repeatRound (droundBlock key) rounds { v0 := v0, v1 := v1, sum := startSum rounds }

/-- XTEA.ENC on the words (R206). -/
@[irreducible] def encBlock (key : Key) (rounds : Nat) (v0 v1 : Word) : Block :=
  repeatRound (eroundBlock key) rounds { v0 := v0, v1 := v1, sum := 0 }

/-- The cipher registers of the state. -/
def getBlock (s : State) : Block := { v0 := s.v0, v1 := s.v1, sum := s.sum }

/-- Write of the cipher registers. -/
def setBlock (b : Block) (s : State) : State := { s with v0 := b.v0, v1 := b.v1, sum := b.sum }

/-- XTEA.UNPACK(o): `V0` from the four bytes of lower offset (R194). -/
def xteaUnpack (o : Fin 22) (s : State) : State :=
  let b := regionByte s.raw o
  { s with
    v0 := packWord s.cfg.byteOrder (b 0) (b 1) (b 2) (b 3)
    v1 := packWord s.cfg.byteOrder (b 4) (b 5) (b 6) (b 7) }

/-- XTEA.DROUND(key) (R196). -/
def xteaDround (key : KeySel) (s : State) : State := setBlock (droundBlock (keyFile s.cfg key) (getBlock s)) s

/-- XTEA.EROUND(key) (R204). -/
def xteaEround (key : KeySel) (s : State) : State := setBlock (eroundBlock (keyFile s.cfg key) (getBlock s)) s

/-- XTEA.DEC(key, rounds) (R198). -/
def xteaDec (key : KeySel) (rounds : Nat) (s : State) : State :=
  setBlock (decBlock (keyFile s.cfg key) rounds s.v0 s.v1) s

/-- XTEA.ENC(key, rounds) (R206). -/
def xteaEnc (key : KeySel) (rounds : Nat) (s : State) : State :=
  setBlock (encBlock (keyFile s.cfg key) rounds s.v0 s.v1) s

/-- The byte that goes to offset `o + j` (R200, R66). The mapping does not depend on `BYTE_ORDER` (D16; for
`NATURAL` see log 9). -/
@[irreducible] def wbByte (order : WbOrder) (v0 v1 : Word) (j : Fin 8) : Byte :=
  match order with
  | .revWord => if j.val < 4 then wordByte v0 (3 - j.val) else wordByte v1 (7 - j.val)
  | .revBlock => if j.val < 4 then wordByte v1 (3 - j.val) else wordByte v0 (7 - j.val)
  | .natural => if j.val < 4 then wordByte v0 j.val else wordByte v1 (j.val - 4)

/-- XTEA.WB(o) (R200). -/
def xteaWb (o : Fin 22) (s : State) : State :=
  { s with raw := writeRegion s.raw o (wbByte s.cfg.wbOrder s.v0 s.v1) }

/-- CIPHER.BLOCK(o, key): unpack, decrypt with `ROUNDS` rounds, write back (R202). -/
def cipherBlock (o : Fin 22) (key : KeySel) (s : State) : State :=
  xteaWb o (xteaDec key s.cfg.rounds (xteaUnpack o s))

/-- CIPHER.FRAME: the first region with `KEY_A`, the second with `KEY_B` (R203). -/
def cipherFrame (s : State) : State :=
  cipherBlock (regionB s.cfg) .b (cipherBlock (regionA s.cfg) .a s)

/-- An operation on the region at `o`, for an 8-byte region inside `RAW[0..28]` (R194). -/
def onRegion (o : Nat) (f : Fin 22 → State → State) (s : State) : Result :=
  if h : o ≤ maxRegionOffset then .next (f ⟨o, Nat.lt_succ_of_le h⟩ s) else .fault .rawBeyondFrame

/-- XTEA.UNPACK(o) (R194). -/
def execXteaUnpack (o : Nat) (s : State) : Result := onRegion o xteaUnpack s

/-- XTEA.DROUND(key) (R196). -/
def execXteaDround (key : KeySel) (s : State) : Result := .next (xteaDround key s)

/-- XTEA.DEC(key, rounds) (R198). -/
def execXteaDec (key : KeySel) (rounds : Nat) (s : State) : Result := .next (xteaDec key rounds s)

/-- XTEA.WB(o) (R200). -/
def execXteaWb (o : Nat) (s : State) : Result := onRegion o xteaWb s

/-- CIPHER.BLOCK(o, key) (R202). -/
def execCipherBlock (o : Nat) (key : KeySel) (s : State) : Result := onRegion o (fun o' => cipherBlock o' key) s

/-- CIPHER.FRAME (R203). -/
def execCipherFrame (s : State) : Result := .next (cipherFrame s)

/-- XTEA.EROUND(key) (R204). -/
def execXteaEround (key : KeySel) (s : State) : Result := .next (xteaEround key s)

/-- XTEA.ENC(key, rounds) (R206). -/
def execXteaEnc (key : KeySel) (rounds : Nat) (s : State) : Result := .next (xteaEnc key rounds s)

end Sys2Proof.Machine
end

