-- ==== Sys2Proof/Machine/Flags.lean ====
section
/-! DEFINITION. The two status flags (10_state R27). There are no arithmetic condition codes (R28). -/

namespace Sys2Proof.Machine

/-- `LCERR`: some of the 232 symbol pairs of the window has two equal samples (R153). -/
@[irreducible] def lineCodeError (win : BitVec 464) : Bool :=
  (List.finRange 232).any fun k => win[2 * k.val] == win[2 * k.val + 1]

/-- `CRCOK`: the residue is exactly zero (R178). -/
def residueIsZero (residue : Half) : Bool := residue == 0

end Sys2Proof.Machine
end

