-- ==== Sys2Proof/Machine/Crc.lean ====
section
/-! DEFINITION. The Frame Checksum Validator (42_crc): CRC.INIT, CRC.BIT, CRC.BYTE, CRC.FINAL, CRC.CHECK. -/

namespace Sys2Proof.Machine

/-- One step of the register: the message bit enters at bit 0, the polynomial is applied when a 1 leaves at
bit 15 (R172). -/
def crcStep (crc : Half) (d : Bool) : Half :=
  let shifted : Half := crc.extractLsb' 0 15 ++ BitVec.ofBool d
  if crc.getLsbD 15 then shifted ^^^ crcPoly else shifted

/-- Eight steps, bit 7 of the byte first (R174). -/
@[irreducible] def crcByteStep (crc : Half) (b : Byte) : Half :=
  [7, 6, 5, 4, 3, 2, 1, 0].foldl (fun c j => crcStep c (b.getLsbD j)) crc

/-- The register after CRC.INIT and all bytes of the frame, before CRC.FINAL (R178). -/
@[irreducible] def crcOfFrame (raw : Vector Byte 29) : Half := raw.toList.foldl crcByteStep crcInitValue

/-- The residue of a frame: the register after CRC.FINAL (R178). -/
@[irreducible] def residue (raw : Vector Byte 29) : Half := crcOfFrame raw ^^^ crcXorOut

/-- CRC.INIT (R171). -/
def crcInit (s : State) : State := { s with crc := crcInitValue }

/-- CRC.BIT(d) (R172). -/
def crcBit (d : Bool) (s : State) : State := { s with crc := crcStep s.crc d }

/-- CRC.BYTE(b) (R174). -/
def crcByte (b : Byte) (s : State) : State := { s with crc := crcByteStep s.crc b }

/-- CRC.FINAL (R176). -/
def crcFinal (s : State) : State := { s with crc := s.crc ^^^ crcXorOut }

/-- CRC.CHECK: the whole check over the 29 bytes (R178). -/
def crcCheck (s : State) : State :=
  { s with crc := residue s.raw, crcok := residueIsZero (residue s.raw) }

/-- CRC.INIT (R171). -/
def execCrcInit (s : State) : Result := .next (crcInit s)

/-- CRC.BIT(d) (R172). -/
def execCrcBit (d : Bool) (s : State) : Result := .next (crcBit d s)

/-- CRC.BYTE(b) (R174). -/
def execCrcByte (b : Byte) (s : State) : Result := .next (crcByte b s)

/-- CRC.FINAL (R176). -/
def execCrcFinal (s : State) : Result := .next (crcFinal s)

/-- CRC.CHECK (R178). -/
def execCrcCheck (s : State) : Result := .next (crcCheck s)

end Sys2Proof.Machine
end

