-- ==== Sys2Proof/Machine/Extract.lean ====
section
/-! DEFINITION. The Frame Field Extractor (44_field_extract): each field of the record from the telemetry bytes
`T[0..23] = RAW[3..26]` (30_encoding R100, R101). -/

namespace Sys2Proof.Machine

/-- `ID = T[2] ‖ T[1] ‖ T[0]` (R221). -/
@[irreducible] def fieldId (raw : Vector Byte 29) : BitVec 24 := telem raw 2 ++ telem raw 1 ++ telem raw 0

/-- `LAT = T[5] ‖ T[4]` (R223). -/
@[irreducible] def fieldLat (raw : Vector Byte 29) : BitVec 16 := telem raw 5 ++ telem raw 4

/-- `LON = T[7] ‖ T[6]` (R224). -/
@[irreducible] def fieldLon (raw : Vector Byte 29) : BitVec 16 := telem raw 7 ++ telem raw 6

/-- `ALT = T[9][4:0] ‖ T[8]` (R225). -/
@[irreducible] def fieldAlt (raw : Vector Byte 29) : BitVec 13 := (telem raw 9).extractLsb' 0 5 ++ telem raw 8

/-- `VSMAG = T[10][7:1] ‖ T[9][7:5]` (R226, D14). -/
def vsMag (raw : Vector Byte 29) : BitVec 10 := (telem raw 10).extractLsb' 1 7 ++ (telem raw 9).extractLsb' 5 3

/-- `VSMULT = T[21][7:6]` (R226). -/
def vsMult (raw : Vector Byte 29) : BitVec 2 := (telem raw 21).extractLsb' 6 2

/-- The vertical-speed value, on integers: shifted below 0x200, else minus 0x400 and not shifted (R103). -/
def vsValue (mag : BitVec 10) (mult : BitVec 2) : Int :=
  if mag.toNat < 0x200 then ((mag.toNat <<< mult.toNat : Nat) : Int) else (mag.toNat : Int) - 0x400

/-- `VS`, held in 16 bits two's complement (R33, R226). -/
@[irreducible] def fieldVs (raw : Vector Byte 29) : BitVec 16 := BitVec.ofInt 16 (vsValue (vsMag raw) (vsMult raw))

/-- `STEALTH = T[11][7]` (R227). -/
@[irreducible] def fieldStealth (raw : Vector Byte 29) : Bool := (telem raw 11).getLsbD 7

/-- `TYPE = T[11][5:2]` (R228). -/
@[irreducible] def fieldType (raw : Vector Byte 29) : BitVec 4 := (telem raw 11).extractLsb' 2 4

/-- `NS[k] = s8(T[12 + k])`, held in 8 bits two's complement (R229). -/
@[irreducible] def fieldNs (raw : Vector Byte 29) : Vector Byte 4 :=
  Vector.ofFn fun k : Fin 4 => BitVec.ofInt 8 (s8 (telem raw ⟨12 + k.val, by omega⟩))

/-- `EW[k] = s8(T[16 + k])`, held in 8 bits two's complement (R230). -/
@[irreducible] def fieldEw (raw : Vector Byte 29) : Vector Byte 4 :=
  Vector.ofFn fun k : Fin 4 => BitVec.ofInt 8 (s8 (telem raw ⟨16 + k.val, by omega⟩))

/-- The six digits of an identifier, most significant nibble first (R105, R222). -/
@[irreducible] def idText (id : BitVec 24) : Vector Char 6 :=
  Vector.ofFn fun k : Fin 6 => hexDigit (id.extractLsb' (4 * (5 - k.val)) 4)

/-- FX.ID (R221). -/
def fxId (s : State) : State := { s with record := { s.record with id := fieldId s.raw } }

/-- FX.IDHEX (R222). -/
def fxIdhex (s : State) : State := { s with text := idText s.record.id }

/-- FX.LAT (R223). -/
def fxLat (s : State) : State := { s with record := { s.record with lat := fieldLat s.raw } }

/-- FX.LON (R224). -/
def fxLon (s : State) : State := { s with record := { s.record with lon := fieldLon s.raw } }

/-- FX.ALT (R225). -/
def fxAlt (s : State) : State := { s with record := { s.record with alt := fieldAlt s.raw } }

/-- FX.VS (R226). -/
def fxVs (s : State) : State := { s with record := { s.record with vs := fieldVs s.raw } }

/-- FX.STEALTH (R227). -/
def fxStealth (s : State) : State := { s with record := { s.record with stealth := fieldStealth s.raw } }

/-- FX.TYPE (R228). -/
def fxType (s : State) : State := { s with record := { s.record with type := fieldType s.raw } }

/-- FX.NS (R229). -/
def fxNs (s : State) : State := { s with record := { s.record with ns := fieldNs s.raw } }

/-- FX.EW (R230). -/
def fxEw (s : State) : State := { s with record := { s.record with ew := fieldEw s.raw } }

/-- The whole record of a frame (R231). -/
def extractRecord (raw : Vector Byte 29) : Record where
  id := fieldId raw
  lat := fieldLat raw
  lon := fieldLon raw
  alt := fieldAlt raw
  vs := fieldVs raw
  stealth := fieldStealth raw
  type := fieldType raw
  ns := fieldNs raw
  ew := fieldEw raw

/-- FX.FRAME: the nine extractions, whose order does not matter (R231, R117). -/
def fxFrame (s : State) : State := { s with record := extractRecord s.raw }

/-- FX.ID (R221). -/
def execFxId (s : State) : Result := .next (fxId s)

/-- FX.IDHEX (R222). -/
def execFxIdhex (s : State) : Result := .next (fxIdhex s)

/-- FX.LAT (R223). -/
def execFxLat (s : State) : Result := .next (fxLat s)

/-- FX.LON (R224). -/
def execFxLon (s : State) : Result := .next (fxLon s)

/-- FX.ALT (R225). -/
def execFxAlt (s : State) : Result := .next (fxAlt s)

/-- FX.VS (R226). -/
def execFxVs (s : State) : Result := .next (fxVs s)

/-- FX.STEALTH (R227). -/
def execFxStealth (s : State) : Result := .next (fxStealth s)

/-- FX.TYPE (R228). -/
def execFxType (s : State) : Result := .next (fxType s)

/-- FX.NS (R229). -/
def execFxNs (s : State) : Result := .next (fxNs s)

/-- FX.EW (R230). -/
def execFxEw (s : State) : Result := .next (fxEw s)

/-- FX.FRAME (R231). -/
def execFxFrame (s : State) : Result := .next (fxFrame s)

end Sys2Proof.Machine
end

