-- ==== Sys2Proof/Machine/LineCode.lean ====
section
/-! DEFINITION. The Line-Code Decoder (41_line_code): LC.SYM, LC.VALIDATE, LC.COLLAPSE, LC.PACK, LC.DECODE, and the
four symbol encodings of R92. -/

namespace Sys2Proof.Machine

/-- LC.SYM: two equal samples are a violation, else the first sample is the bit (R151). -/
def lcSymResult (a b : Bool) : SymResult := if a = b then .violation else .payload a

/-- LC.VALIDATE (R153). -/
def lcValidate (s : State) : State := { s with lcerr := lineCodeError s.win }

/-- The kept samples: `PB[k] = WIN[2k]` (R155). -/
@[irreducible] def collapse (win : BitVec 464) : BitVec 232 :=
  BitVec.ofFnLE fun k : Fin 232 => win[2 * k.val]

/-- LC.COLLAPSE (R155). -/
def lcCollapse (s : State) : State := { s with pb := collapse s.win }

/-- Byte `m`: `PB[8m] ‖ PB[8m+1] ‖ ... ‖ PB[8m+7]` (R157). -/
def packByte (pb : BitVec 232) (m : Fin 29) : Byte :=
  BitVec.ofBool pb[8 * m.val] ++ BitVec.ofBool pb[8 * m.val + 1] ++ BitVec.ofBool pb[8 * m.val + 2] ++
    BitVec.ofBool pb[8 * m.val + 3] ++ BitVec.ofBool pb[8 * m.val + 4] ++ BitVec.ofBool pb[8 * m.val + 5] ++
    BitVec.ofBool pb[8 * m.val + 6] ++ BitVec.ofBool pb[8 * m.val + 7]

/-- The 29 bytes (R157). -/
@[irreducible] def packFrame (pb : BitVec 232) : Vector Byte 29 := Vector.ofFn (packByte pb)

/-- LC.PACK (R157). -/
def lcPack (s : State) : State := { s with raw := packFrame s.pb }

/-- LC.DECODE: validate; then only without a violation collapse and pack (R159). -/
def lcDecode (s : State) : State :=
  if (lcValidate s).lcerr then raise .lineCodeViolation (lcValidate s)
  else noFailure (lcPack (lcCollapse (lcValidate s)))

/-- LC.SYM(a, b) (R151). -/
def execLcSym (a b : Bool) (s : State) : Result := .next { s with symbol := lcSymResult a b }

/-- LC.VALIDATE (R153). -/
def execLcValidate (s : State) : Result := .next (lcValidate s)

/-- LC.COLLAPSE (R155); its precondition `LCERR = 0` is FRAME.PROCESS's to keep (log 7). -/
def execLcCollapse (s : State) : Result := .next (lcCollapse s)

/-- LC.PACK (R157). -/
def execLcPack (s : State) : Result := .next (lcPack s)

/-- LC.DECODE (R159). -/
def execLcDecode (s : State) : Result := .next (lcDecode s)

/-- SYM.ZERO: the pair `01` (R92). -/
def execSymZero (s : State) : Result := .next { s with symbol := lcSymResult false true }

/-- SYM.ONE: the pair `10` (R92). -/
def execSymOne (s : State) : Result := .next { s with symbol := lcSymResult true false }

/-- SYM.ILLEGAL00: the pair `00` (R92). -/
def execSymIllegal00 (s : State) : Result := .next { s with symbol := lcSymResult false false }

/-- SYM.ILLEGAL11: the pair `11` (R92). -/
def execSymIllegal11 (s : State) : Result := .next { s with symbol := lcSymResult true true }

end Sys2Proof.Machine
end

