-- ==== Sys2Proof/Machine/Sync.lean ====
section
/-! DEFINITION. The Frame Synchronizer (40_frame_sync): SYNC.MATCH, SYNC.SCAN, SYNC.WINDOW, SYNC.CONSUME. -/

namespace Sys2Proof.Machine

/-- The 48-sample compare at offset `i`: every position must agree, bit 0 only (R131). -/
@[irreducible] def matchAt (s : State) (i : Nat) : Bool :=
  (List.finRange 48).all fun k => sampleBit s (i + k.val) == sync48 s.cfg k

/-- The first match among the `count` offsets from `i` on, ascending (R134). -/
def findMatch (s : State) : Nat → Nat → Option Nat
  | 0, _ => none
  | count + 1, i => if matchAt s i then some i else findMatch s count (i + 1)

/-- How many offsets SYNC.SCAN may test: those from `CUR` to `LAST = NAVAIL - 464`, both included; none when
`CUR > LAST` or when `NAVAIL < 464` (R134, R259 d). -/
def candidates (s : State) : Nat := s.navail - retain - s.cur

/-- SYNC.SCAN: on a match at `i` the cursor advances to `i + 464`, whatever becomes of the window (R134). -/
def syncScan (s : State) : State :=
  match findMatch s (candidates s) s.cur with
  | some i => { s with found := true, foundAt := i, cur := i + windowBits }
  | none => { s with found := false }

/-- The Frame Window at offset `i`: bit `k` is bit 0 of sample `i + k` (R136). -/
@[irreducible] def windowAt (s : State) (i : Nat) : BitVec 464 :=
  BitVec.ofFnLE fun k : Fin 464 => sampleBit s (i + k.val)

/-- SYNC.WINDOW (R136). -/
def syncWindow (i : Nat) (s : State) : State := { s with win := windowAt s i }

/-- SYNC.CONSUME (R138). -/
def syncConsume (s : State) : State :=
  { s with consumed := if s.navail < windowBits then 0 else s.navail - retain }

/-- SYNC.MATCH(i), for `i + 48 ≤ NAVAIL` (R131); the block reads no sample at or beyond `NAVAIL` (R61). -/
def execSyncMatch (i : Nat) (s : State) : Result :=
  if i + syncBits ≤ s.navail then .next { s with matched := matchAt s i } else .fault .sampleBeyondCount

/-- SYNC.SCAN (R134). -/
def execSyncScan (s : State) : Result := .next (syncScan s)

/-- SYNC.WINDOW(i), for `i + 464 ≤ NAVAIL` (R136, R61). -/
def execSyncWindow (i : Nat) (s : State) : Result :=
  if i + windowBits ≤ s.navail then .next (syncWindow i s) else .fault .sampleBeyondCount

/-- SYNC.CONSUME (R138). -/
def execSyncConsume (s : State) : Result := .next (syncConsume s)

end Sys2Proof.Machine
end

