-- ==== Sys2Proof/Machine/Pipeline.lean ====
section
/-! DEFINITION. The pipeline (45_pipeline): FRAME.PROCESS on one window and DECODE.CALL, the one operation the host
invokes. -/

namespace Sys2Proof.Machine

/-- Write of `STAGE`. -/
def setStage (g : Stage) (s : State) : State := { s with stage := g }

/-- The cipher and extract stages of a validated frame, and the emission of its record (R250). -/
def decryptAndEmit (s : State) : State :=
  let a := cipherBlock (regionA s.cfg) .a (setStage .decA s)
  let b := cipherBlock (regionB s.cfg) .b (setStage .decB a)
  noFailure (emit (fxFrame (setStage .fx b)))

/-- FRAME.PROCESS (R250): the line-code gate, the checksum gate, the cipher, the extractor, the emission. -/
def frameProcess (s : State) : State :=
  let checked := lcValidate (setStage .lc s)
  if checked.lcerr then raise .lineCodeViolation checked
  else
    let summed := crcCheck (setStage .crc (lcPack (lcCollapse checked)))
    if summed.crcok then decryptAndEmit summed else raise .checksumMismatch summed

/-- The loop of DECODE.CALL (R252): scan, window, process, until no match is found. A call finds at most
`NAVAIL / 464` matches (R134), so `NAVAIL / 464 + 1` rounds are enough. -/
def decodeLoop : Nat → State → State
  | 0, s => s
  | k + 1, s =>
    let scanned := syncScan s
    if scanned.found then
      decodeLoop k (setStage .scan (frameProcess (syncWindow scanned.foundAt scanned)))
    else scanned

/-- Entry of a call: `NAVAIL <- n`, `FRAMES <- empty`, `CUR <- 0` (R252). -/
def enterCall (n : Nat) (s : State) : State := { s with navail := n, frames := [], cur := 0 }

/-- A call with at least 464 samples (R252): the loop, the consumed count, the return to idle. -/
def runCall (n : Nat) (s : State) : State :=
  noFailure (setStage .idle (syncConsume (decodeLoop (n / windowBits + 1) (setStage .scan (enterCall n s)))))

/-- A call with fewer than 464 samples: `FRAMES` empty, `CONSUMED = 0` (R252, R273). -/
def starvedCall (n : Nat) (s : State) : State :=
  raise .insufficientData (setStage .idle (syncConsume (enterCall n s)))

/-- FRAME.PROCESS (R250). -/
def execFrameProcess (s : State) : Result := .next (frameProcess s)

/-- DECODE.CALL(buf, n) (R252), for a count the presented buffer holds (U13). -/
def execDecodeCall (n : Nat) (s : State) : Result :=
  if n ≤ s.held then .next (if n < windowBits then starvedCall n s else runCall n s)
  else .refused .countBeyondBuffer

end Sys2Proof.Machine
end

