-- ==== Sys2Proof/Machine/Dispatch.lean ====
section
/-! DEFINITION. One arm per operation, each a direct call of its meaning. -/

namespace Sys2Proof.Machine

/-- What each operation does. -/
def exec (i : Instr) (s : State) : Host.Outcome State Fault Refusal :=
  match i with
  | .decodeCall n => Sys2Proof.Machine.execDecodeCall n s
  | .frameProcess => Sys2Proof.Machine.execFrameProcess s
  | .syncMatch off => Sys2Proof.Machine.execSyncMatch off s
  | .syncScan => Sys2Proof.Machine.execSyncScan s
  | .syncWindow off => Sys2Proof.Machine.execSyncWindow off s
  | .syncConsume => Sys2Proof.Machine.execSyncConsume s
  | .lcSym a b => Sys2Proof.Machine.execLcSym a b s
  | .lcValidate => Sys2Proof.Machine.execLcValidate s
  | .lcCollapse => Sys2Proof.Machine.execLcCollapse s
  | .lcPack => Sys2Proof.Machine.execLcPack s
  | .lcDecode => Sys2Proof.Machine.execLcDecode s
  | .crcInit => Sys2Proof.Machine.execCrcInit s
  | .crcBit d => Sys2Proof.Machine.execCrcBit d s
  | .crcByte b => Sys2Proof.Machine.execCrcByte b s
  | .crcFinal => Sys2Proof.Machine.execCrcFinal s
  | .crcCheck => Sys2Proof.Machine.execCrcCheck s
  | .xteaUnpack o => Sys2Proof.Machine.execXteaUnpack o s
  | .xteaDround key => Sys2Proof.Machine.execXteaDround key s
  | .xteaDec key rounds => Sys2Proof.Machine.execXteaDec key rounds s
  | .xteaWb o => Sys2Proof.Machine.execXteaWb o s
  | .cipherBlock o key => Sys2Proof.Machine.execCipherBlock o key s
  | .cipherFrame => Sys2Proof.Machine.execCipherFrame s
  | .xteaEround key => Sys2Proof.Machine.execXteaEround key s
  | .xteaEnc key rounds => Sys2Proof.Machine.execXteaEnc key rounds s
  | .fxId => Sys2Proof.Machine.execFxId s
  | .fxIdhex => Sys2Proof.Machine.execFxIdhex s
  | .fxLat => Sys2Proof.Machine.execFxLat s
  | .fxLon => Sys2Proof.Machine.execFxLon s
  | .fxAlt => Sys2Proof.Machine.execFxAlt s
  | .fxVs => Sys2Proof.Machine.execFxVs s
  | .fxStealth => Sys2Proof.Machine.execFxStealth s
  | .fxType => Sys2Proof.Machine.execFxType s
  | .fxNs => Sys2Proof.Machine.execFxNs s
  | .fxEw => Sys2Proof.Machine.execFxEw s
  | .fxFrame => Sys2Proof.Machine.execFxFrame s
  | .symZero => Sys2Proof.Machine.execSymZero s
  | .symOne => Sys2Proof.Machine.execSymOne s
  | .symIllegal00 => Sys2Proof.Machine.execSymIllegal00 s
  | .symIllegal11 => Sys2Proof.Machine.execSymIllegal11 s

end Sys2Proof.Machine
end

