-- ==== Sys2Proof/Machine/Reference.lean ====
section
/-! DEFINITION. What claims and laws need beside the operations: the line-code image (30_encoding R93), the direct form
of the checksum (42_crc R181), the cipher as a function of the frame (43_cipher R202, R203), and a frame built from
plaintext telemetry (43_cipher R208, 95_test_vectors V6). No operation uses them; Program.lean builds buffers with them. -/

namespace Sys2Proof.Machine

/-- `LC(p)`: every bit followed by its complement (R93). -/
def lineCode : List Bool → List Bool
  | [] => []
  | b :: bs => b :: (!b) :: lineCode bs

/-- The bits of a number, most significant first (R93). -/
def msbFirst {n : Nat} (v : BitVec n) : List Bool := (List.finRange n).map fun k => v.getMsbD k.val

/-- The payload bits of a byte sequence in order of arrival (R64). -/
def bitsOfBytes (bytes : List Byte) : List Bool := bytes.flatMap msbFirst

/-- The window whose samples are the line code of a frame (R93, R95). -/
@[irreducible] def windowOf (raw : Vector Byte 29) : BitVec 464 :=
  BitVec.ofFnLE fun k : Fin 464 => (lineCode (bitsOfBytes raw.toList)).getD k.val false

/-- The frame of a window: LC.COLLAPSE and LC.PACK (R155, R157). -/
def frameOf (win : BitVec 464) : Vector Byte 29 := packFrame (collapse win)

/-- One step of the other checksum form: the message bit is compared at the top, a zero enters (R181). -/
def crcDirectStep (c : Half) (d : Bool) : Half :=
  if (c.getLsbD 15 ^^ d) then (c <<< 1) ^^^ crcPoly else c <<< 1

/-- `C`: the direct form over a byte sequence, with no final XOR (R181). -/
def crcDirect (bytes : List Byte) : Half := (bitsOfBytes bytes).foldl crcDirectStep crcInitValue

/-- The words CIPHER.BLOCK leaves in the cipher registers, from the region at `o` (R194, R198, R202). -/
@[irreducible] def decryptWords (c : Config) (key : KeySel) (o : Fin 22) (raw : Vector Byte 29) : Block :=
  let b := regionByte raw o
  decBlock (keyFile c key) c.rounds (packWord c.byteOrder (b 0) (b 1) (b 2) (b 3))
    (packWord c.byteOrder (b 4) (b 5) (b 6) (b 7))

/-- The frame after CIPHER.BLOCK on the region at `o` (R200, R202). -/
@[irreducible] def decryptRegion (c : Config) (key : KeySel) (o : Fin 22) (raw : Vector Byte 29) : Vector Byte 29 :=
  writeRegion raw o (wbByte c.wbOrder (decryptWords c key o raw).v0 (decryptWords c key o raw).v1)

/-- The frame after CIPHER.FRAME (R203). -/
@[irreducible] def decryptFrame (c : Config) (raw : Vector Byte 29) : Vector Byte 29 :=
  decryptRegion c .b (regionB c) (decryptRegion c .a (regionA c) raw)

/-- A frame with its two trailing bytes set to the check value of the first 27 (R181). -/
def sealFrame (raw : Vector Byte 29) : Vector Byte 29 :=
  let c := crcDirect (raw.toList.take 27)
  (raw.set 27 (c.extractLsb' 8 8)).set 28 (c.extractLsb' 0 8)

/-- Header, plaintext telemetry, two zero bytes (R98): the header is `SYNC24`, most significant byte first. -/
def plainFrame (c : Config) (t : Vector Byte 24) : Vector Byte 29 :=
  Vector.ofFn fun k : Fin 29 =>
    if k.val < 3 then c.sync24.extractLsb' (8 * (2 - k.val)) 8
    else if h : k.val < 27 then t[k.val - 3] else 0

/-- Encryption of a region: the plaintext words big-endian, XTEA.ENC, the ciphertext words little-endian (R208, V6). -/
def encryptRegion (key : Key) (rounds : Nat) (o : Fin 22) (raw : Vector Byte 29) : Vector Byte 29 :=
  let p := regionByte raw o
  let e := encBlock key rounds (be32 (p 0) (p 1) (p 2) (p 3)) (be32 (p 4) (p 5) (p 6) (p 7))
  writeRegion raw o fun j => if j.val < 4 then wordByte e.v0 j.val else wordByte e.v1 (j.val - 4)

/-- A frame as it is sent for plaintext telemetry `t` (V6). -/
def buildFrame (c : Config) (t : Vector Byte 24) : Vector Byte 29 :=
  sealFrame (encryptRegion c.keyB c.rounds (regionB c) (encryptRegion c.keyA c.rounds (regionA c) (plainFrame c t)))

end Sys2Proof.Machine
end

