-- ==== Sys2Proof/Machine/Program.lean ====
section
/-! DEFINITION. Programs of this block: a program is a sample buffer handed to DECODE.CALL (95_test_vectors). No input
selects an operation (30_encoding R111), so an operation runs only inside a call whose samples lead to it. -/

namespace Sys2Proof.Machine

/-- The samples of a window as a buffer, one bit a sample (R60, R318 H-1). -/
def samplesOf (win : BitVec 464) : List Byte :=
  (List.finRange 464).map fun k : Fin 464 => if win[k.val] then 1 else 0

/-- A frame that passes both gates under every configuration: the header, telemetry bytes 0x00 and 0xFF in turn, the
check value (R98, R181). -/
def validFrame (c : Config) : Vector Byte 29 :=
  sealFrame (plainFrame c (Vector.ofFn fun k : Fin 24 => if k.val % 2 = 0 then 0x00 else 0xFF))

/-- A buffer of one valid frame: its call runs every stage (R30, R250). -/
def frameProgram (c : Config) : List Byte := samplesOf (windowOf (validFrame c))

/-- A buffer of the pattern followed by equal samples: its call meets the illegal symbol of that sample (R92, R153). -/
def violationProgram (c : Config) (sample : Bool) : List Byte :=
  samplesOf (BitVec.ofFnLE fun k : Fin 464 => if h : k.val < 48 then sync48 c ⟨k.val, h⟩ else sample)

/-- A buffer whose call runs the operation, with the operands the call gives it. There is none for the two encryption
operations, which no stage invokes (R204, D15), nor for FX.IDHEX, which is no part of FX.FRAME (R231) (log 1). -/
def programFor (c : Config) : Instr → Option (List Byte)
  | .decodeCall n => some (List.replicate n 0)
  | .symIllegal00 => some (violationProgram c false)
  | .symIllegal11 => some (violationProgram c true)
  | .lcSym a b => some (if a = b then violationProgram c a else frameProgram c)
  | .xteaEround _ | .xteaEnc _ _ | .fxIdhex => none
  | .frameProcess | .syncMatch _ | .syncScan | .syncWindow _ | .syncConsume
  | .lcValidate | .lcCollapse | .lcPack | .lcDecode
  | .crcInit | .crcBit _ | .crcByte _ | .crcFinal | .crcCheck
  | .xteaUnpack _ | .xteaDround _ | .xteaDec _ _ | .xteaWb _ | .cipherBlock _ _ | .cipherFrame
  | .fxId | .fxLat | .fxLon | .fxAlt | .fxVs | .fxStealth | .fxType | .fxNs | .fxEw | .fxFrame
  | .symZero | .symOne => some (frameProgram c)

end Sys2Proof.Machine
end

