-- ==== Sys2Proof/Machine/Step.lean ====
section
/-! DEFINITION. One step of the machine. The block fetches no instruction (10_state R29) and no input selects an
operation (30_encoding R111): a step is one decode call on the next buffer the host presents (00_scope R8, R252). -/

namespace Sys2Proof.Machine

/-- One step: a decode call on the next presented buffer, else the block waits in `IDLE` (R8, R290). The buffer and its
count are the only input. -/
def step (s : State) : Host.Outcome State Fault Refusal :=
  match s.inbox with
  | buf :: rest => exec (.decodeCall buf.length) (present buf rest s)
  | [] => .next s

/-- `s` with a program for the operation of a row of opcode_table.json as the next buffer of the host. The row's number
serves only to find the constructor (R111); what the machine gets is samples. A word that is no row, and an operation
that no call runs, leave the state as it is (log 1). -/
def State.withFetchWord (s : State) (nbits w : Nat) : State :=
  match (decodeTableWord nbits w).bind (programFor s.cfg) with
  | some buf => { s with inbox := buf :: s.inbox }
  | none => s

end Sys2Proof.Machine
end

