-- ==== Sys2Proof/Machine/Stages.lean ====
section
/-! DEFINITION. The same decode call seen stage by stage (10_state R30): one transition of `STAGE` at a time. A call
is atomic (00_scope R8), so `step` does not use this view; claims relate it to DECODE.CALL. -/

namespace Sys2Proof.Machine

/-- One transition of the stage order: `SCAN -> LC` on a match, else `SCAN -> IDLE`; `LC -> CRC` when `LCERR = 0`, else
`LC -> SCAN`; `CRC -> DEC_A` when `CRCOK = 1`, else `CRC -> SCAN`; `DEC_A -> DEC_B -> FX -> SCAN` (R30). -/
def stageStep (s : State) : State :=
  match s.stage with
  | .idle => s
  | .scan =>
    let scanned := syncScan s
    if scanned.found then setStage .lc (syncWindow scanned.foundAt scanned)
    else noFailure (setStage .idle (syncConsume scanned))
  | .lc =>
    let checked := lcValidate s
    if checked.lcerr then setStage .scan (raise .lineCodeViolation checked)
    else setStage .crc (lcPack (lcCollapse checked))
  | .crc =>
    let summed := crcCheck s
    if summed.crcok then setStage .decA summed else setStage .scan (raise .checksumMismatch summed)
  | .decA => setStage .decB (cipherBlock (regionA s.cfg) .a s)
  | .decB => setStage .fx (cipherBlock (regionB s.cfg) .b s)
  | .fx => setStage .scan (noFailure (emit (fxFrame s)))

/-- `k` transitions. -/
def stageRun : Nat → State → State
  | 0, s => s
  | k + 1, s => stageRun k (stageStep s)

end Sys2Proof.Machine
end

