-- ==== Sys2Proof/Safety.lean ====
section
/-! DEFINITION. The terms the claims are stated in: an operation that completes, the invariant every step keeps, the
fields a record holds. -/

namespace Sys2Proof.Machine

/-- The operation completes: it answers a next state, and that state has the property. -/
def Does (i : Instr) (s : State) (post : State → Prop) : Prop := ∃ t, exec i s = .next t ∧ post t

/-- The synchronization pattern stands at offset `i`: bit 0 of its 48 samples is, for each of the 24 bits of `SYNC24` from
the most significant on, the bit and then its complement (R94, R131). -/
def PatternAt (s : State) (i : Nat) : Prop :=
  ∀ k : Fin 24,
    (Memory.read s.sample (i + 2 * k.val)).getLsbD 0 = s.cfg.sync24.getLsbD (23 - k.val) ∧
    (Memory.read s.sample (i + 2 * k.val + 1)).getLsbD 0 = !s.cfg.sync24.getLsbD (23 - k.val)

/-- The vertical speed of a record is in the range R33 gives. -/
def Record.vsInRange (r : Record) : Prop := -512 ≤ r.vs.toInt ∧ r.vs.toInt ≤ 4088

/-- What holds of a state of the block: the sample space is in canonical form and holds only samples of the presented
buffer; no count passes the one it is bounded by (R25, R32); every emitted record has a vertical speed in range
(R33). -/
structure Inv (s : State) : Prop where
  canonical : Memory.wf s.sample = true
  inBuffer : ∀ c ∈ s.sample, c.1 < s.held
  navailHeld : s.navail ≤ s.held
  curNavail : s.cur ≤ s.navail
  consumedNavail : s.consumed ≤ s.navail
  framesInRange : ∀ r ∈ s.frames, r.vsInRange

/-- `VSMAG` as a number, from the telemetry bytes (R101). -/
def magNumber (t : Vector Byte 24) : Nat := t[9].toNat / 32 + 8 * (t[10].toNat / 2)

/-- The record holds the fields of the telemetry bytes `t`, in the numbers of R101 and R103. -/
structure FieldsOf (t : Vector Byte 24) (r : Record) : Prop where
  id : r.id.toNat = t[0].toNat + 256 * t[1].toNat + 65536 * t[2].toNat
  lat : r.lat.toNat = t[4].toNat + 256 * t[5].toNat
  lon : r.lon.toNat = t[6].toNat + 256 * t[7].toNat
  alt : r.alt.toNat = t[8].toNat + 256 * (t[9].toNat % 32)
  vs : r.vs.toInt =
    if magNumber t < 0x200 then ((magNumber t * 2 ^ (t[21].toNat / 64) : Nat) : Int) else (magNumber t : Int) - 0x400
  stealth : r.stealth = decide (0x80 ≤ t[11].toNat)
  type : r.type.toNat = t[11].toNat / 4 % 16
  ns : ∀ k : Fin 4, r.ns[k].toInt = s8 t[12 + k.val]
  ew : ∀ k : Fin 4, r.ew[k].toInt = s8 t[16 + k.val]

/-- The telemetry bytes `T[0..23] = RAW[3..26]` (R98). -/
def telemetry (raw : Vector Byte 29) : Vector Byte 24 := Vector.ofFn (telem raw)

end Sys2Proof.Machine
end

