-- ==== Sys2Proof/Certificates/Slice0/Obligations.lean ====
section
/-! DEFINITION. The statements for the provers. Each docstring names the rule of spec/ it formalises; the clauses that
rest on a choice of the model name its log entry. -/

open Sys2Proof Sys2Proof.Machine

/-! ## The step and the decoder -/

/-- A row of the table is run as the program that leads to it, a buffer of samples (95, Part P): the next step is the call
on that buffer, for DECODE.CALL exactly the row's own operation; the call on the buffer of one valid frame passes every
stage and emits one record, the call on the buffer with an illegal symbol stops at the line code; a word that is no row, and
an operation that no call runs, place nothing (10 R29, 30 R111, 45 R252; the choice of the buffers is log 1). -/
def Obligations.StepRunsTheRowsProgram : Prop :=
  (∀ (s : State) (nbits w : Nat) (i : Instr) (buf : List Byte),
    decodeTableWord nbits w = some i → programFor s.cfg i = some buf →
    step (s.withFetchWord nbits w) = exec (.decodeCall buf.length) (present buf s.inbox s)) ∧
  (∀ (s : State) (nbits w n : Nat), decodeTableWord nbits w = some (.decodeCall n) →
    step (s.withFetchWord nbits w) = exec (.decodeCall n) (present (List.replicate n 0) s.inbox s)) ∧
  (∀ (s : State) (nbits w : Nat),
    (∀ i, decodeTableWord nbits w = some i → programFor s.cfg i = none) → s.withFetchWord nbits w = s) ∧
  (∀ s : State, ∃ t, step { s with inbox := frameProgram s.cfg :: s.inbox } = .next t ∧
    t.frames = [t.record] ∧ t.found = false ∧ t.foundAt = 0 ∧ t.lcerr = false ∧ t.crcok = true) ∧
  (∀ (s : State) (b : Bool), ∃ t, step { s with inbox := violationProgram s.cfg b :: s.inbox } = .next t ∧
    t.frames = [] ∧ t.foundAt = 0 ∧ t.lcerr = true ∧ t.win[48] = b ∧ t.win[49] = b)

/-- A step presents the host's next buffer and decodes exactly that buffer: the call is given the
count of its samples, reads its samples, and completes (00 R8, 45 R252; the inbox is the model's own, log 5). -/
def Obligations.StepDecodesTheNextBuffer : Prop :=
  ∀ (s : State) (buf : List Byte) (rest : List (List Byte)), s.inbox = buf :: rest →
    step s = exec (.decodeCall buf.length) (present buf rest s) ∧
    (∃ t, step s = .next t) ∧
    present buf rest s =
      { s with sample := (present buf rest s).sample, held := buf.length, inbox := rest } ∧
    (∀ a, Memory.read (present buf rest s).sample a = buf.getD a 0) ∧
    Memory.wf (present buf rest s).sample = true

/-- No input selects an operation (30 R111, 92 D3): from every state a step is one decode call on the next buffer, which is
all that the host can hand it, or, with no call presented, leaves the block waiting unchanged (60 R290); and from an idle
block it leaves an idle block, for a call is atomic (00 R8). -/
def Obligations.IdleStepWaits : Prop :=
  (∀ s : State, s.inbox = [] → step s = .next s) ∧
  (∀ s : State,
    step s = .next s ∨
    ∃ buf rest, s.inbox = buf :: rest ∧ step s = exec (.decodeCall buf.length) (present buf rest s)) ∧
  (∀ s t : State, s.stage = .idle → step s = .next t → t.stage = .idle)

/-- Decoding the word of any well-formed operation gives it back, with every operand (30 R110, R92; operands log 1). -/
def Obligations.DecodeInvertsEncode : Prop :=
  ∀ i : Instr, i.wellFormed = true → decode (encode i) = .ok i

/-- Every word that decodes is the word of what it decodes to, and that is well-formed: no two words share a meaning
and no ill-formed operation is ever decoded (log 1). -/
def Obligations.DecodedWordsAreCanonical : Prop :=
  ∀ (w : OpWord) (i : Instr), decode w = .ok i → encode i = w ∧ i.wellFormed = true

/-- Some words written out from the table decode to what they stand for, one or more of every component (30 R110,
R92). -/
def Obligations.TableWordsDecode : Prop :=
  decode (.op 0x00 [479]) = .ok (.decodeCall 479) ∧
  decode (.op 0x10 [10]) = .ok (.syncMatch 10) ∧
  decode (.op 0x24 []) = .ok .lcDecode ∧
  decode (.op 0x32 [0xA5]) = .ok (.crcByte 0xA5) ∧
  decode (.op 0x44 [15, 1]) = .ok (.cipherBlock 15 .b) ∧
  decode (.op 0x5A []) = .ok .fxFrame ∧
  decode (.sym false true) = .ok .symZero

/-- A number that is no row of the table is rejected whatever its operands (30 R110, R111). -/
def Obligations.OtherNumbersAreRejected : Prop :=
  ∀ (c : BitVec 8) (operands : List Nat),
    c.toNat ∉ [0x00, 0x01, 0x10, 0x11, 0x12, 0x13, 0x20, 0x21, 0x22, 0x23, 0x24, 0x30, 0x31, 0x32, 0x33, 0x34,
      0x40, 0x41, 0x42, 0x43, 0x44, 0x45, 0x46, 0x47,
      0x50, 0x51, 0x52, 0x53, 0x54, 0x55, 0x56, 0x57, 0x58, 0x59, 0x5A] →
    decode (.op c operands) = .error (.reservedCode c)

/-! ## Reset, invariants, whole-machine frames -/

/-- After reset the block is idle, no record is there, and the constants R22 gives a value have it (10 R37, 70 R310).
The values of the unspecified registers are not stated. -/
def Obligations.ResetState : Prop :=
  State.reset.stage = .idle ∧ State.reset.frames = [] ∧
  State.reset.cfg.rounds = 6 ∧ State.reset.cfg.byteOrder = .le ∧ State.reset.cfg.wbOrder = .revWord ∧
  (regionA State.reset.cfg).val = 7 ∧ (regionB State.reset.cfg).val = 15 ∧
  crcPoly = 0x1021 ∧ crcInitValue = 0xFFFF ∧ crcXorOut = 0x9335 ∧ delta = 0x9E3779B9

/-- The invariant holds after reset (the counts after reset are the model's, logs 5 and 6). -/
def Obligations.ResetMeetsInvariant : Prop := Inv State.reset

/-- Every step keeps the invariant: the sample space canonical, no count past its bound, every emitted vertical speed
in -512 .. 4088 (10 R25, R29, R32, R33). -/
def Obligations.StepKeepsInvariant : Prop :=
  ∀ s t : State, Inv s → step s = .next t → Inv t

/-- No operation writes a configuration constant (10 R22), a sample, or anything of the host's side (20 R62); in
particular every sample reads as before. -/
def Obligations.NoOperationWritesConstantsOrSamples : Prop :=
  ∀ (i : Instr) (s t : State), exec i s = .next t →
    t.cfg = s.cfg ∧ t.sample = s.sample ∧ t.held = s.held ∧ t.inbox = s.inbox ∧
    ∀ a, Memory.read t.sample a = Memory.read s.sample a

/-- The cursor is written by SYNC.SCAN and by DECODE.CALL only, the sample count by DECODE.CALL only (10 R25, R29). -/
def Obligations.OnlyScanAndCallMoveTheCursor : Prop :=
  ∀ (i : Instr) (s t : State), exec i s = .next t →
    ((t.cur ≠ s.cur → i = .syncScan ∨ ∃ n, i = .decodeCall n) ∧
     (t.navail ≠ s.navail → ∃ n, i = .decodeCall n))

/-- The flags are written by the validators and by the composites that contain them, by nothing else: no cipher and no
extractor operation writes one (10 R27). Records are emitted by FRAME.PROCESS and DECODE.CALL only (10 R34). -/
def Obligations.OnlyNamedOperationsWriteFlagsAndFrames : Prop :=
  ∀ (i : Instr) (s t : State), exec i s = .next t →
    ((t.lcerr ≠ s.lcerr → i = .lcValidate ∨ i = .lcDecode ∨ i = .frameProcess ∨ ∃ n, i = .decodeCall n) ∧
     (t.crcok ≠ s.crcok → i = .crcCheck ∨ i = .frameProcess ∨ ∃ n, i = .decodeCall n) ∧
     (t.frames ≠ s.frames → i = .frameProcess ∨ ∃ n, i = .decodeCall n))

/-- Which operations stop, how, and exactly when: a sample read at or beyond `NAVAIL` (20 R61), a region outside
`RAW[0..28]` (43 R194), a count larger than the buffer (93 U13); the stops are the model's own (log 8). Everything
else completes from every state. -/
def Obligations.OnlyTheseOperationsStop : Prop :=
  ∀ (i : Instr) (s : State),
    (exec i s = .fault .sampleBeyondCount ↔
      (∃ k, i = .syncMatch k ∧ s.navail < k + 48) ∨ (∃ k, i = .syncWindow k ∧ s.navail < k + 464)) ∧
    (exec i s = .fault .rawBeyondFrame ↔
      (∃ o, i = .xteaUnpack o ∧ 21 < o) ∨ (∃ o, i = .xteaWb o ∧ 21 < o) ∨
      (∃ o key, i = .cipherBlock o key ∧ 21 < o)) ∧
    (∀ r, exec i s = .refused r ↔ r = .countBeyondBuffer ∧ ∃ n, i = .decodeCall n ∧ s.held < n)

/-! ## Frame Synchronizer -/

/-- SYNC.MATCH: the result is 1 exactly when bit 0 of all 48 samples agrees with the line code of `SYNC24`, most
significant bit first; nothing else changes (40 R131, 30 R94; the result latch is log 2). -/
def Obligations.SyncMatchComparesFortyEightSamples : Prop :=
  decode (.op 0x10 [0]) = .ok (.syncMatch 0) ∧
  ∀ (s : State) (i : Nat), i + 48 ≤ s.navail →
    Does (.syncMatch i) s fun t =>
      t = { s with matched := t.matched } ∧
      (t.matched = true ↔ PatternAt s i)

/-- SYNC.SCAN: the lowest offset at or after the cursor at which the pattern matches and the whole window fits, with
the cursor advanced to 464 past it; or found = 0 and the cursor unchanged (40 R134). -/
def Obligations.SyncScanFindsTheFirstMatch : Prop :=
  decode (.op 0x11 []) = .ok .syncScan ∧
  ∀ s : State, Does .syncScan s fun t =>
    t = { s with found := t.found, foundAt := t.foundAt, cur := t.cur } ∧
    ((t.found = true ∧ s.cur ≤ t.foundAt ∧ t.foundAt + 464 ≤ s.navail ∧ PatternAt s t.foundAt ∧
        (∀ i, s.cur ≤ i → i < t.foundAt → ¬ PatternAt s i) ∧ t.cur = t.foundAt + 464) ∨
     (t.found = false ∧ t.cur = s.cur ∧ t.foundAt = s.foundAt ∧
        ∀ i, s.cur ≤ i → i + 464 ≤ s.navail → ¬ PatternAt s i))

/-- SYNC.WINDOW: `WIN[k]` is bit 0 of sample `i + k`; nothing else changes (40 R136). -/
def Obligations.SyncWindowCopiesTheWindow : Prop :=
  decode (.op 0x12 [0]) = .ok (.syncWindow 0) ∧
  ∀ (s : State) (i : Nat), i + 464 ≤ s.navail →
    Does (.syncWindow i) s fun t =>
      t = { s with win := t.win } ∧
      ∀ k : Fin 464, t.win[k] = (Memory.read s.sample (i + k.val)).getLsbD 0

/-- A window formed at a match begins with the pattern: its first 24 symbol pairs are legal and hold the bits of
`SYNC24` (40 R131, R136). -/
def Obligations.MatchedWindowBeginsWithThePattern : Prop :=
  ∀ (s : State) (i : Nat), i + 464 ≤ s.navail → PatternAt s i →
    Does (.syncWindow i) s fun t =>
      ∀ k : Fin 24, t.win[2 * k.val] = s.cfg.sync24.getLsbD (23 - k.val) ∧
        t.win[2 * k.val + 1] = !t.win[2 * k.val]

/-- SYNC.CONSUME: 0 below 464 samples, else all but 463; the count does not depend on any match (40 R138). -/
def Obligations.SyncConsumeKeeps463 : Prop :=
  decode (.op 0x13 []) = .ok .syncConsume ∧
  ∀ s : State, Does .syncConsume s fun t =>
    t = { s with consumed := t.consumed } ∧
    (s.navail < 464 → t.consumed = 0) ∧ (464 ≤ s.navail → t.consumed + 463 = s.navail)

/-! ## Line-Code Decoder -/

/-- LC.SYM: two equal samples are a violation, else the bit is the first sample; the four symbol encodings of the
table are its four cases; nothing but the result changes (41 R151, 30 R92; the latch is log 2). -/
def Obligations.SymbolsDecode : Prop :=
  decode (.op 0x20 [0, 1]) = .ok (.lcSym false true) ∧
  decode (.sym false true) = .ok .symZero ∧ decode (.sym true false) = .ok .symOne ∧
  decode (.sym false false) = .ok .symIllegal00 ∧ decode (.sym true true) = .ok .symIllegal11 ∧
  ∀ s : State,
    (∀ a b : Bool, Does (.lcSym a b) s fun t =>
      t = { s with symbol := t.symbol } ∧ (a = b → t.symbol = .violation) ∧ (a ≠ b → t.symbol = .payload a)) ∧
    exec .symZero s = .next { s with symbol := .payload false } ∧
    exec .symOne s = .next { s with symbol := .payload true } ∧
    exec .symIllegal00 s = .next { s with symbol := .violation } ∧
    exec .symIllegal11 s = .next { s with symbol := .violation }

/-- LC.VALIDATE: `LCERR` is 1 exactly when some of the 232 non-overlapping pairs has two equal samples; nothing else
changes; and FRAME.PROCESS does nothing further with such a window: `PB`, `RAW`, `CRC` and the cipher registers keep what
they held (41 R153; that they keep it is log 14, 60 R277 against 93 U12). -/
def Obligations.LcValidateSetsLcerr : Prop :=
  decode (.op 0x21 []) = .ok .lcValidate ∧
  ∀ s : State, Does .lcValidate s fun t =>
    t = { s with lcerr := t.lcerr } ∧
    (t.lcerr = true ↔ ∃ k : Fin 232, s.win[2 * k.val] = s.win[2 * k.val + 1]) ∧
    (t.lcerr = true → Does .frameProcess s fun p => p = { t with stage := p.stage, failure := p.failure })

/-- LC.COLLAPSE: `PB[k] = WIN[2k]`; nothing else changes (41 R155; also when `LCERR = 1`, log 7). -/
def Obligations.LcCollapseKeepsFirstSamples : Prop :=
  decode (.op 0x22 []) = .ok .lcCollapse ∧
  ∀ s : State, Does .lcCollapse s fun t =>
    t = { s with pb := t.pb } ∧ ∀ k : Fin 232, t.pb[k] = s.win[2 * k.val]

/-- LC.PACK: bit `7 - j` of byte `m` is `PB[8m + j]`; nothing else changes (41 R157). -/
def Obligations.LcPackIsMsbFirst : Prop :=
  decode (.op 0x23 []) = .ok .lcPack ∧
  ∀ s : State, Does .lcPack s fun t =>
    t = { s with raw := t.raw } ∧
    ∀ (m : Fin 29) (j : Fin 8), t.raw[m].getLsbD (7 - j.val) = s.pb[8 * m.val + j.val]

/-- LC.DECODE is its expansion: a violation ends it after LC.VALIDATE with `LineCodeViolation` and no bytes written,
else LC.COLLAPSE and LC.PACK follow (41 R159, 30 R117; the failure latch is log 2). -/
def Obligations.LcDecodeIsItsExpansion : Prop :=
  decode (.op 0x24 []) = .ok .lcDecode ∧
  ∀ s : State, Does .lcDecode s fun t =>
    Does .lcValidate s fun v =>
      (v.lcerr = true → t = { v with failure := some .lineCodeViolation }) ∧
      (v.lcerr = false → Does .lcCollapse v fun c => Does .lcPack c fun p => t = { p with failure := none })

/-- LC.DECODE returns every frame from its line code: it is the left inverse of `LC` on all 2^232 frames (41 R159,
30 R93). -/
def Obligations.LcDecodeInvertsTheLineCode : Prop :=
  ∀ (s : State) (raw : Vector Byte 29), s.win = windowOf raw →
    Does .lcDecode s fun t => t.raw = raw ∧ t.lcerr = false ∧ t.failure = none

/-- Exactly the line-code images are accepted, each from one frame; any other window is rejected with no partial
output (41 R159, 30 R93). -/
def Obligations.LcDecodeAcceptsOnlyImages : Prop :=
  ∀ s : State, Does .lcDecode s fun t =>
    (t.failure = none ↔ ∃ raw, s.win = windowOf raw) ∧
    (t.failure = none → ∀ raw, s.win = windowOf raw → t.raw = raw) ∧
    (t.failure ≠ none → t = { s with lcerr := true, failure := some .lineCodeViolation })

/-! ## Frame Checksum Validator -/

/-- CRC.INIT loads 0xFFFF and CRC.FINAL XORs 0x9335, neither changing anything else (42 R171, R176); and CRC.CHECK does
not depend on what the register held: it never carries a value from one frame to the next (42 R171). -/
def Obligations.CrcInitAndFinal : Prop :=
  decode (.op 0x30 []) = .ok .crcInit ∧ decode (.op 0x33 []) = .ok .crcFinal ∧
  (∀ s : State, exec .crcInit s = .next { s with crc := 0xFFFF }) ∧
  (∀ s : State, exec .crcFinal s = .next { s with crc := s.crc ^^^ 0x9335 }) ∧
  (∀ (s : State) (c : Half), exec .crcCheck { s with crc := c } = exec .crcCheck s)

/-- CRC.BIT: the register shifts left by one, the message bit enters at bit 0, and 0x1021 is XORed exactly when the bit
that left at bit 15 was 1; nothing else changes (42 R172). -/
def Obligations.CrcBitShiftsTheMessageIn : Prop :=
  decode (.op 0x31 [1]) = .ok (.crcBit true) ∧
  ∀ (s : State) (d : Bool), Does (.crcBit d) s fun t =>
    t = { s with crc := t.crc } ∧
    t.crc.toNat =
      ((2 * s.crc.toNat + d.toNat) % 0x10000) ^^^ (if 0x8000 ≤ s.crc.toNat then 0x1021 else 0)

/-- CRC.BYTE is eight CRC.BIT, bit 7 first; nothing else changes (42 R174). -/
def Obligations.CrcByteIsEightBits : Prop :=
  decode (.op 0x32 [0xA5]) = .ok (.crcByte 0xA5) ∧
  ∀ (s : State) (b : Byte), Does (.crcByte b) s fun t =>
    t = { s with crc := t.crc } ∧
    (Does (.crcBit (b.getLsbD 7)) s fun s1 => Does (.crcBit (b.getLsbD 6)) s1 fun s2 =>
      Does (.crcBit (b.getLsbD 5)) s2 fun s3 => Does (.crcBit (b.getLsbD 4)) s3 fun s4 =>
      Does (.crcBit (b.getLsbD 3)) s4 fun s5 => Does (.crcBit (b.getLsbD 2)) s5 fun s6 =>
      Does (.crcBit (b.getLsbD 1)) s6 fun s7 => Does (.crcBit (b.getLsbD 0)) s7 fun s8 => t = s8)

/-- Over the bytes LC.PACK makes, CRC.CHECK feeds the register the 232 payload bits in their order of arrival: the
register is CRC.BIT's own step run over `PB[0] .. PB[231]` from 0xFFFF, with 0x9335 XORed at the end (an inference of
42 R174, from 20 R64 and 42 R178). -/
def Obligations.CrcSeesBitsInOrderOfArrival : Prop :=
  ∀ s : State, Does .lcPack s fun p => Does .crcCheck p fun c =>
    ∃ run : Nat → State, (run 0).crc = 0xFFFF ∧
      (∀ k : Fin 232, exec (.crcBit s.pb[k]) (run k.val) = .next (run (k.val + 1))) ∧
      c.crc = (run 232).crc ^^^ 0x9335

/-- CRC.CHECK: CRC.INIT, CRC.BYTE over the 29 bytes in order, CRC.FINAL; `CRCOK` is 1 exactly when the register then is
zero; nothing else changes; and a frame of a legal window with `CRCOK = 0` is discarded by FRAME.PROCESS, which runs no
later operation (42 R178, 60 R272); that `PB`, `RAW` and `CRC` keep what was left in them is log 14 (60 R277 against
93 U12). -/
def Obligations.CrcCheckValidatesTheFrame : Prop :=
  decode (.op 0x34 []) = .ok .crcCheck ∧
  (∀ s : State, Does .crcCheck s fun t =>
    t = { s with crc := t.crc, crcok := t.crcok } ∧
    (t.crcok = true ↔ t.crc = 0) ∧
    (Does .crcInit s fun s0 =>
      ∃ run : Nat → State, run 0 = s0 ∧
        (∀ m : Fin 29, exec (.crcByte s.raw[m]) (run m.val) = .next (run (m.val + 1))) ∧
        Does .crcFinal (run 29) fun u => t.crc = u.crc)) ∧
  (∀ s : State, Does .lcDecode s fun d => d.lcerr = false →
    Does .crcCheck d fun c => c.crcok = false →
      Does .frameProcess s fun p => p = { c with stage := p.stage, failure := p.failure })

/-- The register as a polynomial over GF(2): after any message bits, started from 0xFFFF, it is
`(0xFFFF * x^n + M) mod (x^16 + x^12 + x^5 + 1)` (42 R180). -/
def Obligations.CrcIsPolynomialRemainder : Prop :=
  ∀ bits : List Bool,
    let poly (c : Half) : Polynomial (ZMod 2) :=
      ∑ k ∈ Finset.range 16, if c.getLsbD k then Polynomial.X ^ k else 0
    let message : Polynomial (ZMod 2) :=
      ∑ k ∈ Finset.range bits.length,
        if bits.getD k false then Polynomial.X ^ (bits.length - 1 - k) else 0
    poly (bits.foldl crcStep 0xFFFF) =
      (poly 0xFFFF * Polynomial.X ^ bits.length + message) %ₘ
        (Polynomial.X ^ 16 + Polynomial.X ^ 12 + Polynomial.X ^ 5 + 1)

/-- Which frames pass: CRC.CHECK sets `CRCOK` exactly when the two trailing bytes hold the direct-form check value of
the first 27, high byte first (42 R181). -/
def Obligations.FramePassesIffTrailerIsCheckValue : Prop :=
  ∀ s : State, Does .crcCheck s fun t =>
    (t.crcok = true ↔
      s.raw[27] = (crcDirect (s.raw.toList.take 27)).extractLsb' 8 8 ∧
      s.raw[28] = (crcDirect (s.raw.toList.take 27)).extractLsb' 0 8)

/-- Flipping any single one of the 232 bits of a valid frame always gives a non-zero residue, and the check is linear
over three frames (42 R182). -/
def Obligations.SingleBitErrorsAreDetected : Prop :=
  (∀ (s : State) (m : Fin 29) (j : Fin 8), (Does .crcCheck s fun v => v.crcok = true) →
    Does .crcCheck { s with raw := s.raw.set m.val (s.raw[m] ^^^ (1#8 <<< j.val)) } fun t =>
      t.crcok = false ∧ t.crc ≠ 0) ∧
  (∀ (s : State) (a b z : Vector Byte 29),
    Does .crcCheck { s with raw := a } fun ta => Does .crcCheck { s with raw := b } fun tb =>
    Does .crcCheck { s with raw := z } fun tz =>
    Does .crcCheck { s with raw := Vector.ofFn fun k : Fin 29 => a[k] ^^^ b[k] ^^^ z[k] } fun t =>
      t.crc = ta.crc ^^^ tb.crc ^^^ tz.crc)

/-! ## Block Cipher Engine -/

/-- XTEA.UNPACK: little-endian or big-endian words by `BYTE_ORDER`, `V0` from the lower four bytes; nothing else
changes (43 R194, 20 R65). -/
def Obligations.XteaUnpackReadsTheRegion : Prop :=
  decode (.op 0x40 [7]) = .ok (.xteaUnpack 7) ∧
  ∀ (s : State) (o : Nat) (h : o ≤ 21), Does (.xteaUnpack o) s fun t =>
    t = { s with v0 := t.v0, v1 := t.v1 } ∧
    (s.cfg.byteOrder = .le →
      (∀ j : Fin 4, t.v0.extractLsb' (8 * j.val) 8 = s.raw[o + j.val]) ∧
      (∀ j : Fin 4, t.v1.extractLsb' (8 * j.val) 8 = s.raw[o + 4 + j.val])) ∧
    (s.cfg.byteOrder = .be →
      (∀ j : Fin 4, t.v0.extractLsb' (8 * j.val) 8 = s.raw[o + 3 - j.val]) ∧
      (∀ j : Fin 4, t.v1.extractLsb' (8 * j.val) 8 = s.raw[o + 7 - j.val]))

/-- XTEA.DROUND: `V1`, then `SUM`, then `V0`, each from what the one before left, the key word chosen by bits 12:11 and
then 1:0 of the sum; nothing else changes (43 R196, R191; in the word, 0 for `KEY_A` is log 1). -/
def Obligations.XteaDroundUpdatesV1SumV0 : Prop :=
  decode (.op 0x41 [0]) = .ok (.xteaDround .a) ∧
  ∀ (s : State) (key : KeySel), Does (.xteaDround key) s fun t =>
    t = { s with v0 := t.v0, v1 := t.v1, sum := t.sum } ∧
    (let file : Key := match key with | .a => s.cfg.keyA | .b => s.cfg.keyB
     let word (n : Nat) : Word := file.getD (n % 4) 0
     t.v1 = s.v1 - ((((s.v0 <<< 4) ^^^ (s.v0 >>> 5)) + s.v0) ^^^ (s.sum + word (s.sum.toNat / 2 ^ 11))) ∧
     t.sum = s.sum - 0x9E3779B9 ∧
     t.v0 = s.v0 - ((((t.v1 <<< 4) ^^^ (t.v1 >>> 5)) + t.v1) ^^^ (t.sum + word t.sum.toNat)))

/-- XTEA.EROUND: `V0`, then `SUM`, then `V1`; nothing else changes (43 R204, R191; in the word, 1 for `KEY_B` is
log 1). -/
def Obligations.XteaEroundUpdatesV0SumV1 : Prop :=
  decode (.op 0x46 [1]) = .ok (.xteaEround .b) ∧
  ∀ (s : State) (key : KeySel), Does (.xteaEround key) s fun t =>
    t = { s with v0 := t.v0, v1 := t.v1, sum := t.sum } ∧
    (let file : Key := match key with | .a => s.cfg.keyA | .b => s.cfg.keyB
     let word (n : Nat) : Word := file.getD (n % 4) 0
     t.v0 = s.v0 + ((((s.v1 <<< 4) ^^^ (s.v1 >>> 5)) + s.v1) ^^^ (s.sum + word s.sum.toNat)) ∧
     t.sum = s.sum + 0x9E3779B9 ∧
     t.v1 = s.v1 + ((((t.v0 <<< 4) ^^^ (t.v0 >>> 5)) + t.v0) ^^^ (t.sum + word (t.sum.toNat / 2 ^ 11))))

/-- XTEA.DEC is the start sum `DELTA * rounds` and then `rounds` times XTEA.DROUND, and leaves `SUM = 0`; XTEA.ENC is the
start sum 0 and then `rounds` times XTEA.EROUND, and leaves `SUM = DELTA * rounds`; nothing but `V0`, `V1`, `SUM`
changes (43 R198, R206, 30 R117; in the words, 0 for `KEY_A` and 1 for `KEY_B` are log 1). -/
def Obligations.XteaDecAndEncAreTheirRounds : Prop :=
  decode (.op 0x42 [0, 6]) = .ok (.xteaDec .a 6) ∧ decode (.op 0x47 [1, 32]) = .ok (.xteaEnc .b 32) ∧
  ∀ (s : State) (key : KeySel) (rounds : Nat),
    (Does (.xteaDec key rounds) s fun t =>
      t = { s with v0 := t.v0, v1 := t.v1, sum := t.sum } ∧ t.sum = 0 ∧
      ∃ run : Nat → State, run 0 = { s with sum := BitVec.ofNat 32 (0x9E3779B9 * rounds) } ∧
        (∀ k, k < rounds → exec (.xteaDround key) (run k) = .next (run (k + 1))) ∧ t = run rounds) ∧
    (Does (.xteaEnc key rounds) s fun t =>
      t = { s with v0 := t.v0, v1 := t.v1, sum := t.sum } ∧ t.sum = BitVec.ofNat 32 (0x9E3779B9 * rounds) ∧
      ∃ run : Nat → State, run 0 = { s with sum := 0 } ∧
        (∀ k, k < rounds → exec (.xteaEround key) (run k) = .next (run (k + 1))) ∧ t = run rounds)

/-- Encryption undoes decryption and decryption undoes encryption, for every key, round count and block (43 R208). -/
def Obligations.EncryptionAndDecryptionAreInverse : Prop :=
  ∀ (s : State) (key : KeySel) (rounds : Nat),
    (Does (.xteaDec key rounds) s fun d => Does (.xteaEnc key rounds) d fun e => e.v0 = s.v0 ∧ e.v1 = s.v1) ∧
    (Does (.xteaEnc key rounds) s fun e => Does (.xteaDec key rounds) e fun d => d.v0 = s.v0 ∧ d.v1 = s.v1)

/-- XTEA.WB: the byte mapping of the three values of `WB_ORDER`; bytes outside the region and everything else stay
(43 R200, 20 R66; `NATURAL` is little-endian whatever `BYTE_ORDER` is, log 9). -/
def Obligations.XteaWbWritesTheRegion : Prop :=
  decode (.op 0x43 [15]) = .ok (.xteaWb 15) ∧
  ∀ (s : State) (o : Nat) (h : o ≤ 21), Does (.xteaWb o) s fun t =>
    t = { s with raw := t.raw } ∧
    (∀ k : Fin 29, k.val < o ∨ o + 8 ≤ k.val → t.raw[k] = s.raw[k]) ∧
    (s.cfg.wbOrder = .revWord → ∀ j : Fin 4,
      t.raw[o + 3 - j.val] = s.v0.extractLsb' (8 * j.val) 8 ∧
      t.raw[o + 7 - j.val] = s.v1.extractLsb' (8 * j.val) 8) ∧
    (s.cfg.wbOrder = .revBlock → ∀ j : Fin 4,
      t.raw[o + 7 - j.val] = s.v0.extractLsb' (8 * j.val) 8 ∧
      t.raw[o + 3 - j.val] = s.v1.extractLsb' (8 * j.val) 8) ∧
    (s.cfg.wbOrder = .natural → ∀ j : Fin 4,
      t.raw[o + j.val] = s.v0.extractLsb' (8 * j.val) 8 ∧
      t.raw[o + 4 + j.val] = s.v1.extractLsb' (8 * j.val) 8)

/-- CIPHER.BLOCK is XTEA.UNPACK, XTEA.DEC with `ROUNDS`, XTEA.WB, and changes nothing else in `RAW` (43 R202; in the word,
0 for `KEY_A` is log 1). -/
def Obligations.CipherBlockIsItsExpansion : Prop :=
  decode (.op 0x44 [7, 0]) = .ok (.cipherBlock 7 .a) ∧
  ∀ (s : State) (key : KeySel) (o : Nat), o ≤ 21 → Does (.cipherBlock o key) s fun t =>
    t = { s with raw := t.raw, v0 := t.v0, v1 := t.v1, sum := t.sum } ∧
    (∀ k : Fin 29, k.val < o ∨ o + 8 ≤ k.val → t.raw[k] = s.raw[k]) ∧
    Does (.xteaUnpack o) s fun u => Does (.xteaDec key s.cfg.rounds) u fun d =>
      Does (.xteaWb o) d fun w => t = w

/-- CIPHER.FRAME is CIPHER.BLOCK on the first region with `KEY_A` and then on the next 8 bytes with `KEY_B`; the other
order gives the same bytes, and bytes outside the two regions stay (43 R203; also when `CRCOK = 0`, log 7). -/
def Obligations.CipherFrameDecryptsTwoRegions : Prop :=
  decode (.op 0x45 []) = .ok .cipherFrame ∧
  ∀ s : State, Does .cipherFrame s fun t =>
    t = { s with raw := t.raw, v0 := t.v0, v1 := t.v1, sum := t.sum } ∧
    (∀ k : Fin 29, k.val < s.cfg.cipherOffA.val ∨ s.cfg.cipherOffA.val + 16 ≤ k.val → t.raw[k] = s.raw[k]) ∧
    (Does (.cipherBlock s.cfg.cipherOffA.val .a) s fun a =>
      Does (.cipherBlock (s.cfg.cipherOffA.val + 8) .b) a fun b => t = b) ∧
    (Does (.cipherBlock (s.cfg.cipherOffA.val + 8) .b) s fun b =>
      Does (.cipherBlock s.cfg.cipherOffA.val .a) b fun a => t.raw = a.raw)

/-! ## Frame Field Extractor -/

/-- FX.ID: the 24-bit identifier, byte of highest index most significant; nothing else changes (44 R221). -/
def Obligations.FxIdIsLittleEndian : Prop :=
  decode (.op 0x50 []) = .ok .fxId ∧
  ∀ s : State, Does .fxId s fun t =>
    t = { s with record := { s.record with id := t.record.id } } ∧
    t.record.id.toNat = s.raw[3].toNat + 256 * s.raw[4].toNat + 65536 * s.raw[5].toNat

/-- FX.IDHEX: six lower-case digits of `REC.ID`, most significant nibble first, zeros kept; nothing else changes
(44 R222, 30 R105). -/
def Obligations.FxIdhexRendersSixDigits : Prop :=
  decode (.op 0x51 []) = .ok .fxIdhex ∧
  ∀ s : State, Does .fxIdhex s fun t =>
    t = { s with text := t.text } ∧
    ∀ k : Fin 6, t.text[k] =
      ['0', '1', '2', '3', '4', '5', '6', '7', '8', '9', 'a', 'b', 'c', 'd', 'e', 'f'].getD
        (s.record.id.toNat / 16 ^ (5 - k.val) % 16) ' '

/-- FX.LAT, FX.LON, FX.ALT: little-endian 16-, 16- and 13-bit fields; each changes its own field only (44 R223, R224,
R225). -/
def Obligations.FxPositionFields : Prop :=
  decode (.op 0x52 []) = .ok .fxLat ∧ decode (.op 0x53 []) = .ok .fxLon ∧ decode (.op 0x54 []) = .ok .fxAlt ∧
  ∀ s : State,
    (Does .fxLat s fun t => t = { s with record := { s.record with lat := t.record.lat } } ∧
      t.record.lat.toNat = s.raw[7].toNat + 256 * s.raw[8].toNat) ∧
    (Does .fxLon s fun t => t = { s with record := { s.record with lon := t.record.lon } } ∧
      t.record.lon.toNat = s.raw[9].toNat + 256 * s.raw[10].toNat) ∧
    (Does .fxAlt s fun t => t = { s with record := { s.record with alt := t.record.alt } } ∧
      t.record.alt.toNat = s.raw[11].toNat + 256 * (s.raw[12].toNat % 32))

/-- FX.VS: the 10-bit magnitude shifted by the multiplier below 0x200, else minus 0x400 with no multiplier; nothing else
changes (44 R226, 30 R103). -/
def Obligations.FxVsIsAsymmetric : Prop :=
  decode (.op 0x55 []) = .ok .fxVs ∧
  ∀ s : State, Does .fxVs s fun t =>
    t = { s with record := { s.record with vs := t.record.vs } } ∧
    (let mag := s.raw[12].toNat / 32 + 8 * (s.raw[13].toNat / 2)
     t.record.vs.toInt =
       if mag < 0x200 then ((mag * 2 ^ (s.raw[24].toNat / 64) : Nat) : Int) else (mag : Int) - 0x400)

/-- FX.STEALTH and FX.TYPE: bit 7 and bits 5:2 of the telemetry byte 11; each changes its own field only (44 R227,
R228). -/
def Obligations.FxStealthAndType : Prop :=
  decode (.op 0x56 []) = .ok .fxStealth ∧ decode (.op 0x57 []) = .ok .fxType ∧
  ∀ s : State,
    (Does .fxStealth s fun t => t = { s with record := { s.record with stealth := t.record.stealth } } ∧
      (t.record.stealth = true ↔ 0x80 ≤ s.raw[14].toNat)) ∧
    (Does .fxType s fun t => t = { s with record := { s.record with type := t.record.type } } ∧
      t.record.type.toNat = s.raw[14].toNat / 4 % 16)

/-- FX.NS and FX.EW: four bytes each, every one read as a signed byte; each changes its own field only (44 R229,
R230). -/
def Obligations.FxVelocitiesAreSigned : Prop :=
  decode (.op 0x58 []) = .ok .fxNs ∧ decode (.op 0x59 []) = .ok .fxEw ∧
  ∀ s : State,
    (Does .fxNs s fun t => t = { s with record := { s.record with ns := t.record.ns } } ∧
      ∀ k : Fin 4, t.record.ns[k].toInt =
        if s.raw[15 + k.val].toNat < 0x80 then (s.raw[15 + k.val].toNat : Int)
        else (s.raw[15 + k.val].toNat : Int) - 0x100) ∧
    (Does .fxEw s fun t => t = { s with record := { s.record with ew := t.record.ew } } ∧
      ∀ k : Fin 4, t.record.ew[k].toInt =
        if s.raw[19 + k.val].toNat < 0x80 then (s.raw[19 + k.val].toNat : Int)
        else (s.raw[19 + k.val].toNat : Int) - 0x100)

/-- FX.FRAME: all nine fields of the telemetry, in the numbers of the assembly table, and nothing but the record
changes; it is exactly the nine single extractions one after the other (44 R231, 30 R101, R117). -/
def Obligations.FxFrameFillsTheRecord : Prop :=
  decode (.op 0x5A []) = .ok .fxFrame ∧
  ∀ s : State, Does .fxFrame s fun t =>
    t = { s with record := t.record } ∧ FieldsOf (telemetry s.raw) t.record ∧
    (Does .fxId s fun s1 => Does .fxLat s1 fun s2 => Does .fxLon s2 fun s3 => Does .fxAlt s3 fun s4 =>
      Does .fxVs s4 fun s5 => Does .fxStealth s5 fun s6 => Does .fxType s6 fun s7 => Does .fxNs s7 fun s8 =>
      Does .fxEw s8 fun s9 => t = s9)

/-- The bits the extractor does not take do not reach the record: frames that agree in all the others give equal
records (44 R232, 30 R113). -/
def Obligations.UnextractedBitsAreIgnored : Prop :=
  ∀ (s : State) (raw : Vector Byte 29),
    (∀ k : Fin 29, 3 ≤ k.val → k.val ≤ 22 → k.val ≠ 6 → k.val ≠ 13 → k.val ≠ 14 → raw[k] = s.raw[k]) →
    (∀ j, 1 ≤ j → j < 8 → raw[13].getLsbD j = s.raw[13].getLsbD j) →
    (∀ j, 2 ≤ j → j < 8 → j ≠ 6 → raw[14].getLsbD j = s.raw[14].getLsbD j) →
    (∀ j, 6 ≤ j → j < 8 → raw[24].getLsbD j = s.raw[24].getLsbD j) →
    Does .fxFrame s fun t => Does .fxFrame { s with raw := raw } fun u => u.record = t.record

/-! ## The pipeline -/

/-- FRAME.PROCESS has exactly three outcomes, tested in this order: a line-code violation, a checksum mismatch, or one
record appended; the first two append nothing and run no later stage (45 R250, 60 R276; the failure
latch is log 2, what the registers hold after a failure log 14). -/
def Obligations.FrameProcessHasThreeOutcomes : Prop :=
  decode (.op 0x01 []) = .ok .frameProcess ∧
  ∀ s : State, Does .frameProcess s fun t =>
    Does .lcDecode s fun d =>
      Does .crcCheck d fun c =>
        (d.lcerr = true → t = { d with stage := .lc }) ∧
        (d.lcerr = false → c.crcok = false →
          t = { c with stage := .crc, failure := some .checksumMismatch }) ∧
        (d.lcerr = false → c.crcok = true →
          Does .cipherFrame c fun e => Does .fxFrame e fun f =>
            t = { f with stage := .fx, frames := s.frames ++ [f.record], failure := none })

/-- What FRAME.PROCESS leaves unchanged on every outcome: the constants, the samples, the counts, the cursor, the
consumed count, the scan results and the text; and records already emitted stay, in order (45 R250, 60 R277). -/
def Obligations.FrameProcessFrame : Prop :=
  ∀ s : State, Does .frameProcess s fun t =>
    t = { s with
      stage := t.stage, pb := t.pb, raw := t.raw, crc := t.crc, v0 := t.v0, v1 := t.v1, sum := t.sum,
      lcerr := t.lcerr, crcok := t.crcok, record := t.record, frames := t.frames, failure := t.failure } ∧
    (t.frames = s.frames ∨
      (t.frames = s.frames ++ [t.record] ∧ t.lcerr = false ∧ t.crcok = true ∧
        ∀ k : Fin 232, s.win[2 * k.val] ≠ s.win[2 * k.val + 1]))

/-- DECODE.CALL with fewer than 464 samples: no record, nothing consumed, idle, no window or frame register touched; a
count the buffer does not hold is refused (45 R252, 60 R273, 93 U13; the model's choices are logs 2, 8, 10, 14). -/
def Obligations.StarvedCallConsumesNothing : Prop :=
  decode (.op 0x00 [463]) = .ok (.decodeCall 463) ∧
  (∀ (s : State) (n : Nat), n ≤ s.held → n < 464 →
    exec (.decodeCall n) s = .next
      { s with navail := n, cur := 0, frames := [], consumed := 0, stage := .idle,
               failure := some .insufficientData }) ∧
  (∀ (s : State) (n : Nat), s.held < n → exec (.decodeCall n) s = .refused .countBeyondBuffer)

/-- DECODE.CALL with at least 464 samples completes: all but 463 samples consumed, at most one record for every 464
samples, the cursor inside the data, the engine idle again, and nothing outside the block's own registers and outputs
changed (45 R252, 40 R138). -/
def Obligations.DecodeCallCompletes : Prop :=
  ∀ (s : State) (n : Nat), n ≤ s.held → 464 ≤ n →
    Does (.decodeCall n) s fun t =>
      t.navail = n ∧ t.consumed + 463 = n ∧ t.frames.length ≤ n / 464 ∧ t.cur ≤ n ∧ t.stage = .idle ∧
      t.failure = none ∧
      t.cfg = s.cfg ∧ t.sample = s.sample ∧ t.held = s.held ∧ t.inbox = s.inbox ∧
      t.matched = s.matched ∧ t.symbol = s.symbol ∧ t.text = s.text ∧
      ∀ a, Memory.read t.sample a = Memory.read s.sample a

/-- A call without a match emits nothing and touches no window or frame register: no match is not a failure
(40 R134, 60 R273; the latches are log 2, the untouched registers log 14). -/
def Obligations.NoMatchIsNotAFailure : Prop :=
  ∀ (s : State) (n : Nat), n ≤ s.held → 464 ≤ n → (∀ i, i + 464 ≤ n → ¬ PatternAt s i) →
    exec (.decodeCall n) s = .next
      { s with navail := n, cur := 0, frames := [], consumed := n - 463, found := false, stage := .idle,
               failure := none }

/-- The call terminates: the loop never runs out of rounds, so that allowing more of them changes nothing (45 R252). -/
def Obligations.DecodeLoopHasEnoughRounds : Prop :=
  ∀ (s : State) (n k : Nat), n / 464 + 1 ≤ k →
    decodeLoop k (setStage .scan (enterCall n s)) = decodeLoop (n / 464 + 1) (setStage .scan (enterCall n s))

/-- A call is what the stage order gives: from `SCAN`, transition by transition, at most six for each window and one
more, the engine reaches `IDLE` in the very state DECODE.CALL answers (10 R30, 45 R252). -/
def Obligations.CallIsTheStageOrder : Prop :=
  ∀ (s : State) (n : Nat), n ≤ s.held → 464 ≤ n →
    ∃ k, k ≤ 6 * (n / 464) + 1 ∧
      exec (.decodeCall n) s =
        .next (stageRun k { s with navail := n, frames := [], cur := 0, stage := .scan })

/-- The stage order has no other transition (10 R30). -/
def Obligations.StageOrderIsFixed : Prop :=
  ∀ s : State,
    (s.stage = .idle → stageStep s = s) ∧
    (s.stage = .scan → ((stageStep s).stage = .lc ∧ (stageStep s).found = true) ∨
      ((stageStep s).stage = .idle ∧ (stageStep s).found = false)) ∧
    (s.stage = .lc → ((stageStep s).stage = .crc ∧ (stageStep s).lcerr = false) ∨
      ((stageStep s).stage = .scan ∧ (stageStep s).lcerr = true)) ∧
    (s.stage = .crc → ((stageStep s).stage = .decA ∧ (stageStep s).crcok = true) ∨
      ((stageStep s).stage = .scan ∧ (stageStep s).crcok = false)) ∧
    (s.stage = .decA → (stageStep s).stage = .decB) ∧
    (s.stage = .decB → (stageStep s).stage = .fx) ∧
    (s.stage = .fx → (stageStep s).stage = .scan)

/-- A call is a function of bit 0 of its samples and of the constants alone: two states that agree in these, whatever
else they hold, give the same records and the same count (10 R21, 20 R60, 45 R253). -/
def Obligations.CallDependsOnlyOnSampleBits : Prop :=
  ∀ (s u : State) (n : Nat), n ≤ s.held → n ≤ u.held → s.cfg = u.cfg →
    (∀ a, a < n → sampleBit s a = sampleBit u a) →
    Does (.decodeCall n) s fun t => Does (.decodeCall n) u fun v => t.frames = v.frames ∧ t.consumed = v.consumed

/-- End to end: a frame built from any plaintext telemetry, encrypted with the two keys and line-coded, is decoded by a
call on its 464 samples to one record with exactly the fields of the plaintext (45 R255, built as 43 R208 says). It covers
every pattern, pair of keys and round count, with `BYTE_ORDER = LE`, `WB_ORDER = REV_WORD` and `CIPHER_OFF_A` from 3 to 11;
it leaves out `BE`, the other two write-back orders, and the offsets 0 to 2, 12 and 13, whose regions reach into the header
or the trailing bytes. -/
def Obligations.BuiltFrameIsDecoded : Prop :=
  ∀ (s : State) (t : Vector Byte 24), s.cfg.byteOrder = .le → s.cfg.wbOrder = .revWord →
    3 ≤ s.cfg.cipherOffA.val → s.cfg.cipherOffA.val ≤ 11 → 464 ≤ s.held →
    (∀ k : Fin 464, sampleBit s k.val = (windowOf (buildFrame s.cfg t))[k]) →
    Does (.decodeCall 464) s fun u =>
      (∃ r, u.frames = [r] ∧ FieldsOf t r) ∧ u.consumed = 1 ∧ u.stage = .idle
end

