-- ==== Sys2Proof/Laws/Memory.lean ====
section
/-! SUPPORT. The sample space: the one operation that builds it gives the canonical form, and reading it gives back the
buffer. -/

namespace Sys2Proof.Machine

/-- Every cell of a loaded buffer lies between the first offset and the end, and holds no unlisted value. -/
theorem load_bounds (buf : List Byte) : ∀ a, ∀ c ∈ Memory.load a buf,
    a ≤ c.1 ∧ c.1 < a + buf.length ∧ c.2 ≠ unlistedSample := by
  induction buf with
  | nil => intro a c hc; simp [Memory.load] at hc
  | cons v vs ih =>
    intro a c hc
    rw [Memory.load] at hc
    simp only [List.length_cons]
    split at hc
    · obtain ⟨h1, h2, h3⟩ := ih (a + 1) c hc
      exact ⟨by omega, by omega, h3⟩
    · rcases List.mem_cons.1 hc with rfl | hc
      · exact ⟨Nat.le_refl _, by simp only; omega, by assumption⟩
      · obtain ⟨h1, h2, h3⟩ := ih (a + 1) c hc
        exact ⟨by omega, by omega, h3⟩

/-- A cell below and unlike an unlisted one may be put before canonical cells. -/
theorem wf_cons {a : Nat} {v : Byte} {m : List Host.Cell} (hv : v ≠ unlistedSample) (hm : Memory.wf m = true)
    (hlt : ∀ c ∈ m, a < c.1) : Memory.wf ((a, v) :: m) = true := by
  cases m with
  | nil => simpa [Memory.wf] using hv
  | cons c m =>
    have := hlt c (List.mem_cons_self ..)
    simp [Memory.wf, hv, this, hm]

/-- Loading a buffer gives the canonical form. -/
theorem load_wf (buf : List Byte) : ∀ a, Memory.wf (Memory.load a buf) = true := by
  induction buf with
  | nil => intro a; rfl
  | cons v vs ih =>
    intro a
    rw [Memory.load]
    split
    · exact ih (a + 1)
    · refine wf_cons (by assumption) (ih (a + 1)) fun c hc => ?_
      have := (load_bounds vs (a + 1) c hc).1
      omega

/-- An offset with no cell reads as the unlisted sample. -/
theorem read_unlisted {m : List Host.Cell} {a : Nat} (h : ∀ c ∈ m, c.1 ≠ a) :
    Memory.read m a = unlistedSample := by
  induction m with
  | nil => rfl
  | cons c m ih =>
    rw [Memory.read, if_neg (h c (List.mem_cons_self ..))]
    exact ih fun c' hc' => h c' (List.mem_cons_of_mem _ hc')

/-- Reading a loaded buffer gives its sample, and the unlisted sample past its end. -/
theorem read_load (buf : List Byte) : ∀ a k, Memory.read (Memory.load a buf) (a + k) = buf.getD k unlistedSample := by
  induction buf with
  | nil => intro a k; simp [Memory.load, Memory.read]
  | cons v vs ih =>
    intro a k
    rw [Memory.load]
    cases k with
    | zero =>
      split
      · rw [read_unlisted fun c hc => by have := (load_bounds vs (a + 1) c hc).1; omega]
        simpa using Eq.symm ‹v = unlistedSample›
      · simp [Memory.read]
    | succ k =>
      have hk : a + (k + 1) = (a + 1) + k := by omega
      split
      · rw [hk, ih]; simp
      · rw [Memory.read, if_neg (by omega), hk, ih]; simp

end Sys2Proof.Machine
end

