-- ==== Sys2Proof/Laws/State.lean ====
section
/-! SUPPORT. What each update of the state does to each field: one lemma per field per update, true by `rfl`, so that no
later proof unfolds a record update. -/

namespace Sys2Proof.Machine

variable (s : State)

/-! `setStage` -/

@[simp] theorem setStage_cfg (g : Stage) : (setStage g s).cfg = s.cfg := rfl
@[simp] theorem setStage_sample (g : Stage) : (setStage g s).sample = s.sample := rfl
@[simp] theorem setStage_held (g : Stage) : (setStage g s).held = s.held := rfl
@[simp] theorem setStage_inbox (g : Stage) : (setStage g s).inbox = s.inbox := rfl
@[simp] theorem setStage_navail (g : Stage) : (setStage g s).navail = s.navail := rfl
@[simp] theorem setStage_cur (g : Stage) : (setStage g s).cur = s.cur := rfl
@[simp] theorem setStage_stage (g : Stage) : (setStage g s).stage = g := rfl
@[simp] theorem setStage_win (g : Stage) : (setStage g s).win = s.win := rfl
@[simp] theorem setStage_pb (g : Stage) : (setStage g s).pb = s.pb := rfl
@[simp] theorem setStage_raw (g : Stage) : (setStage g s).raw = s.raw := rfl
@[simp] theorem setStage_crc (g : Stage) : (setStage g s).crc = s.crc := rfl
@[simp] theorem setStage_v0 (g : Stage) : (setStage g s).v0 = s.v0 := rfl
@[simp] theorem setStage_v1 (g : Stage) : (setStage g s).v1 = s.v1 := rfl
@[simp] theorem setStage_sum (g : Stage) : (setStage g s).sum = s.sum := rfl
@[simp] theorem setStage_lcerr (g : Stage) : (setStage g s).lcerr = s.lcerr := rfl
@[simp] theorem setStage_crcok (g : Stage) : (setStage g s).crcok = s.crcok := rfl
@[simp] theorem setStage_record (g : Stage) : (setStage g s).record = s.record := rfl
@[simp] theorem setStage_frames (g : Stage) : (setStage g s).frames = s.frames := rfl
@[simp] theorem setStage_consumed (g : Stage) : (setStage g s).consumed = s.consumed := rfl
@[simp] theorem setStage_matched (g : Stage) : (setStage g s).matched = s.matched := rfl
@[simp] theorem setStage_found (g : Stage) : (setStage g s).found = s.found := rfl
@[simp] theorem setStage_foundAt (g : Stage) : (setStage g s).foundAt = s.foundAt := rfl
@[simp] theorem setStage_symbol (g : Stage) : (setStage g s).symbol = s.symbol := rfl
@[simp] theorem setStage_text (g : Stage) : (setStage g s).text = s.text := rfl
@[simp] theorem setStage_failure (g : Stage) : (setStage g s).failure = s.failure := rfl

/-! `raise` -/

@[simp] theorem raise_cfg (f : Failure) : (raise f s).cfg = s.cfg := rfl
@[simp] theorem raise_sample (f : Failure) : (raise f s).sample = s.sample := rfl
@[simp] theorem raise_held (f : Failure) : (raise f s).held = s.held := rfl
@[simp] theorem raise_inbox (f : Failure) : (raise f s).inbox = s.inbox := rfl
@[simp] theorem raise_navail (f : Failure) : (raise f s).navail = s.navail := rfl
@[simp] theorem raise_cur (f : Failure) : (raise f s).cur = s.cur := rfl
@[simp] theorem raise_stage (f : Failure) : (raise f s).stage = s.stage := rfl
@[simp] theorem raise_win (f : Failure) : (raise f s).win = s.win := rfl
@[simp] theorem raise_pb (f : Failure) : (raise f s).pb = s.pb := rfl
@[simp] theorem raise_raw (f : Failure) : (raise f s).raw = s.raw := rfl
@[simp] theorem raise_crc (f : Failure) : (raise f s).crc = s.crc := rfl
@[simp] theorem raise_v0 (f : Failure) : (raise f s).v0 = s.v0 := rfl
@[simp] theorem raise_v1 (f : Failure) : (raise f s).v1 = s.v1 := rfl
@[simp] theorem raise_sum (f : Failure) : (raise f s).sum = s.sum := rfl
@[simp] theorem raise_lcerr (f : Failure) : (raise f s).lcerr = s.lcerr := rfl
@[simp] theorem raise_crcok (f : Failure) : (raise f s).crcok = s.crcok := rfl
@[simp] theorem raise_record (f : Failure) : (raise f s).record = s.record := rfl
@[simp] theorem raise_frames (f : Failure) : (raise f s).frames = s.frames := rfl
@[simp] theorem raise_consumed (f : Failure) : (raise f s).consumed = s.consumed := rfl
@[simp] theorem raise_matched (f : Failure) : (raise f s).matched = s.matched := rfl
@[simp] theorem raise_found (f : Failure) : (raise f s).found = s.found := rfl
@[simp] theorem raise_foundAt (f : Failure) : (raise f s).foundAt = s.foundAt := rfl
@[simp] theorem raise_symbol (f : Failure) : (raise f s).symbol = s.symbol := rfl
@[simp] theorem raise_text (f : Failure) : (raise f s).text = s.text := rfl
@[simp] theorem raise_failure (f : Failure) : (raise f s).failure = some f := rfl

/-! `noFailure` -/

@[simp] theorem noFailure_cfg : (noFailure s).cfg = s.cfg := rfl
@[simp] theorem noFailure_sample : (noFailure s).sample = s.sample := rfl
@[simp] theorem noFailure_held : (noFailure s).held = s.held := rfl
@[simp] theorem noFailure_inbox : (noFailure s).inbox = s.inbox := rfl
@[simp] theorem noFailure_navail : (noFailure s).navail = s.navail := rfl
@[simp] theorem noFailure_cur : (noFailure s).cur = s.cur := rfl
@[simp] theorem noFailure_stage : (noFailure s).stage = s.stage := rfl
@[simp] theorem noFailure_win : (noFailure s).win = s.win := rfl
@[simp] theorem noFailure_pb : (noFailure s).pb = s.pb := rfl
@[simp] theorem noFailure_raw : (noFailure s).raw = s.raw := rfl
@[simp] theorem noFailure_crc : (noFailure s).crc = s.crc := rfl
@[simp] theorem noFailure_v0 : (noFailure s).v0 = s.v0 := rfl
@[simp] theorem noFailure_v1 : (noFailure s).v1 = s.v1 := rfl
@[simp] theorem noFailure_sum : (noFailure s).sum = s.sum := rfl
@[simp] theorem noFailure_lcerr : (noFailure s).lcerr = s.lcerr := rfl
@[simp] theorem noFailure_crcok : (noFailure s).crcok = s.crcok := rfl
@[simp] theorem noFailure_record : (noFailure s).record = s.record := rfl
@[simp] theorem noFailure_frames : (noFailure s).frames = s.frames := rfl
@[simp] theorem noFailure_consumed : (noFailure s).consumed = s.consumed := rfl
@[simp] theorem noFailure_matched : (noFailure s).matched = s.matched := rfl
@[simp] theorem noFailure_found : (noFailure s).found = s.found := rfl
@[simp] theorem noFailure_foundAt : (noFailure s).foundAt = s.foundAt := rfl
@[simp] theorem noFailure_symbol : (noFailure s).symbol = s.symbol := rfl
@[simp] theorem noFailure_text : (noFailure s).text = s.text := rfl
@[simp] theorem noFailure_failure : (noFailure s).failure = none := rfl

/-! `emit` -/

@[simp] theorem emit_cfg : (emit s).cfg = s.cfg := rfl
@[simp] theorem emit_sample : (emit s).sample = s.sample := rfl
@[simp] theorem emit_held : (emit s).held = s.held := rfl
@[simp] theorem emit_inbox : (emit s).inbox = s.inbox := rfl
@[simp] theorem emit_navail : (emit s).navail = s.navail := rfl
@[simp] theorem emit_cur : (emit s).cur = s.cur := rfl
@[simp] theorem emit_stage : (emit s).stage = s.stage := rfl
@[simp] theorem emit_win : (emit s).win = s.win := rfl
@[simp] theorem emit_pb : (emit s).pb = s.pb := rfl
@[simp] theorem emit_raw : (emit s).raw = s.raw := rfl
@[simp] theorem emit_crc : (emit s).crc = s.crc := rfl
@[simp] theorem emit_v0 : (emit s).v0 = s.v0 := rfl
@[simp] theorem emit_v1 : (emit s).v1 = s.v1 := rfl
@[simp] theorem emit_sum : (emit s).sum = s.sum := rfl
@[simp] theorem emit_lcerr : (emit s).lcerr = s.lcerr := rfl
@[simp] theorem emit_crcok : (emit s).crcok = s.crcok := rfl
@[simp] theorem emit_record : (emit s).record = s.record := rfl
@[simp] theorem emit_frames : (emit s).frames = s.frames ++ [s.record] := rfl
@[simp] theorem emit_consumed : (emit s).consumed = s.consumed := rfl
@[simp] theorem emit_matched : (emit s).matched = s.matched := rfl
@[simp] theorem emit_found : (emit s).found = s.found := rfl
@[simp] theorem emit_foundAt : (emit s).foundAt = s.foundAt := rfl
@[simp] theorem emit_symbol : (emit s).symbol = s.symbol := rfl
@[simp] theorem emit_text : (emit s).text = s.text := rfl
@[simp] theorem emit_failure : (emit s).failure = s.failure := rfl

/-! `present` -/

@[simp] theorem present_cfg (buf : List Byte) (rest : List (List Byte)) : (present buf rest s).cfg = s.cfg := rfl
@[simp] theorem present_sample (buf : List Byte) (rest : List (List Byte)) : (present buf rest s).sample = Memory.load 0 buf := rfl
@[simp] theorem present_held (buf : List Byte) (rest : List (List Byte)) : (present buf rest s).held = buf.length := rfl
@[simp] theorem present_inbox (buf : List Byte) (rest : List (List Byte)) : (present buf rest s).inbox = rest := rfl
@[simp] theorem present_navail (buf : List Byte) (rest : List (List Byte)) : (present buf rest s).navail = s.navail := rfl
@[simp] theorem present_cur (buf : List Byte) (rest : List (List Byte)) : (present buf rest s).cur = s.cur := rfl
@[simp] theorem present_stage (buf : List Byte) (rest : List (List Byte)) : (present buf rest s).stage = s.stage := rfl
@[simp] theorem present_win (buf : List Byte) (rest : List (List Byte)) : (present buf rest s).win = s.win := rfl
@[simp] theorem present_pb (buf : List Byte) (rest : List (List Byte)) : (present buf rest s).pb = s.pb := rfl
@[simp] theorem present_raw (buf : List Byte) (rest : List (List Byte)) : (present buf rest s).raw = s.raw := rfl
@[simp] theorem present_crc (buf : List Byte) (rest : List (List Byte)) : (present buf rest s).crc = s.crc := rfl
@[simp] theorem present_v0 (buf : List Byte) (rest : List (List Byte)) : (present buf rest s).v0 = s.v0 := rfl
@[simp] theorem present_v1 (buf : List Byte) (rest : List (List Byte)) : (present buf rest s).v1 = s.v1 := rfl
@[simp] theorem present_sum (buf : List Byte) (rest : List (List Byte)) : (present buf rest s).sum = s.sum := rfl
@[simp] theorem present_lcerr (buf : List Byte) (rest : List (List Byte)) : (present buf rest s).lcerr = s.lcerr := rfl
@[simp] theorem present_crcok (buf : List Byte) (rest : List (List Byte)) : (present buf rest s).crcok = s.crcok := rfl
@[simp] theorem present_record (buf : List Byte) (rest : List (List Byte)) : (present buf rest s).record = s.record := rfl
@[simp] theorem present_frames (buf : List Byte) (rest : List (List Byte)) : (present buf rest s).frames = s.frames := rfl
@[simp] theorem present_consumed (buf : List Byte) (rest : List (List Byte)) : (present buf rest s).consumed = s.consumed := rfl
@[simp] theorem present_matched (buf : List Byte) (rest : List (List Byte)) : (present buf rest s).matched = s.matched := rfl
@[simp] theorem present_found (buf : List Byte) (rest : List (List Byte)) : (present buf rest s).found = s.found := rfl
@[simp] theorem present_foundAt (buf : List Byte) (rest : List (List Byte)) : (present buf rest s).foundAt = s.foundAt := rfl
@[simp] theorem present_symbol (buf : List Byte) (rest : List (List Byte)) : (present buf rest s).symbol = s.symbol := rfl
@[simp] theorem present_text (buf : List Byte) (rest : List (List Byte)) : (present buf rest s).text = s.text := rfl
@[simp] theorem present_failure (buf : List Byte) (rest : List (List Byte)) : (present buf rest s).failure = s.failure := rfl

/-! `enterCall` -/

@[simp] theorem enterCall_cfg (n : Nat) : (enterCall n s).cfg = s.cfg := rfl
@[simp] theorem enterCall_sample (n : Nat) : (enterCall n s).sample = s.sample := rfl
@[simp] theorem enterCall_held (n : Nat) : (enterCall n s).held = s.held := rfl
@[simp] theorem enterCall_inbox (n : Nat) : (enterCall n s).inbox = s.inbox := rfl
@[simp] theorem enterCall_navail (n : Nat) : (enterCall n s).navail = n := rfl
@[simp] theorem enterCall_cur (n : Nat) : (enterCall n s).cur = 0 := rfl
@[simp] theorem enterCall_stage (n : Nat) : (enterCall n s).stage = s.stage := rfl
@[simp] theorem enterCall_win (n : Nat) : (enterCall n s).win = s.win := rfl
@[simp] theorem enterCall_pb (n : Nat) : (enterCall n s).pb = s.pb := rfl
@[simp] theorem enterCall_raw (n : Nat) : (enterCall n s).raw = s.raw := rfl
@[simp] theorem enterCall_crc (n : Nat) : (enterCall n s).crc = s.crc := rfl
@[simp] theorem enterCall_v0 (n : Nat) : (enterCall n s).v0 = s.v0 := rfl
@[simp] theorem enterCall_v1 (n : Nat) : (enterCall n s).v1 = s.v1 := rfl
@[simp] theorem enterCall_sum (n : Nat) : (enterCall n s).sum = s.sum := rfl
@[simp] theorem enterCall_lcerr (n : Nat) : (enterCall n s).lcerr = s.lcerr := rfl
@[simp] theorem enterCall_crcok (n : Nat) : (enterCall n s).crcok = s.crcok := rfl
@[simp] theorem enterCall_record (n : Nat) : (enterCall n s).record = s.record := rfl
@[simp] theorem enterCall_frames (n : Nat) : (enterCall n s).frames = [] := rfl
@[simp] theorem enterCall_consumed (n : Nat) : (enterCall n s).consumed = s.consumed := rfl
@[simp] theorem enterCall_matched (n : Nat) : (enterCall n s).matched = s.matched := rfl
@[simp] theorem enterCall_found (n : Nat) : (enterCall n s).found = s.found := rfl
@[simp] theorem enterCall_foundAt (n : Nat) : (enterCall n s).foundAt = s.foundAt := rfl
@[simp] theorem enterCall_symbol (n : Nat) : (enterCall n s).symbol = s.symbol := rfl
@[simp] theorem enterCall_text (n : Nat) : (enterCall n s).text = s.text := rfl
@[simp] theorem enterCall_failure (n : Nat) : (enterCall n s).failure = s.failure := rfl

/-! `setBlock` -/

@[simp] theorem setBlock_cfg (b : Block) : (setBlock b s).cfg = s.cfg := rfl
@[simp] theorem setBlock_sample (b : Block) : (setBlock b s).sample = s.sample := rfl
@[simp] theorem setBlock_held (b : Block) : (setBlock b s).held = s.held := rfl
@[simp] theorem setBlock_inbox (b : Block) : (setBlock b s).inbox = s.inbox := rfl
@[simp] theorem setBlock_navail (b : Block) : (setBlock b s).navail = s.navail := rfl
@[simp] theorem setBlock_cur (b : Block) : (setBlock b s).cur = s.cur := rfl
@[simp] theorem setBlock_stage (b : Block) : (setBlock b s).stage = s.stage := rfl
@[simp] theorem setBlock_win (b : Block) : (setBlock b s).win = s.win := rfl
@[simp] theorem setBlock_pb (b : Block) : (setBlock b s).pb = s.pb := rfl
@[simp] theorem setBlock_raw (b : Block) : (setBlock b s).raw = s.raw := rfl
@[simp] theorem setBlock_crc (b : Block) : (setBlock b s).crc = s.crc := rfl
@[simp] theorem setBlock_v0 (b : Block) : (setBlock b s).v0 = b.v0 := rfl
@[simp] theorem setBlock_v1 (b : Block) : (setBlock b s).v1 = b.v1 := rfl
@[simp] theorem setBlock_sum (b : Block) : (setBlock b s).sum = b.sum := rfl
@[simp] theorem setBlock_lcerr (b : Block) : (setBlock b s).lcerr = s.lcerr := rfl
@[simp] theorem setBlock_crcok (b : Block) : (setBlock b s).crcok = s.crcok := rfl
@[simp] theorem setBlock_record (b : Block) : (setBlock b s).record = s.record := rfl
@[simp] theorem setBlock_frames (b : Block) : (setBlock b s).frames = s.frames := rfl
@[simp] theorem setBlock_consumed (b : Block) : (setBlock b s).consumed = s.consumed := rfl
@[simp] theorem setBlock_matched (b : Block) : (setBlock b s).matched = s.matched := rfl
@[simp] theorem setBlock_found (b : Block) : (setBlock b s).found = s.found := rfl
@[simp] theorem setBlock_foundAt (b : Block) : (setBlock b s).foundAt = s.foundAt := rfl
@[simp] theorem setBlock_symbol (b : Block) : (setBlock b s).symbol = s.symbol := rfl
@[simp] theorem setBlock_text (b : Block) : (setBlock b s).text = s.text := rfl
@[simp] theorem setBlock_failure (b : Block) : (setBlock b s).failure = s.failure := rfl

/-! `syncWindow` -/

@[simp] theorem syncWindow_cfg (i : Nat) : (syncWindow i s).cfg = s.cfg := rfl
@[simp] theorem syncWindow_sample (i : Nat) : (syncWindow i s).sample = s.sample := rfl
@[simp] theorem syncWindow_held (i : Nat) : (syncWindow i s).held = s.held := rfl
@[simp] theorem syncWindow_inbox (i : Nat) : (syncWindow i s).inbox = s.inbox := rfl
@[simp] theorem syncWindow_navail (i : Nat) : (syncWindow i s).navail = s.navail := rfl
@[simp] theorem syncWindow_cur (i : Nat) : (syncWindow i s).cur = s.cur := rfl
@[simp] theorem syncWindow_stage (i : Nat) : (syncWindow i s).stage = s.stage := rfl
@[simp] theorem syncWindow_win (i : Nat) : (syncWindow i s).win = windowAt s i := rfl
@[simp] theorem syncWindow_pb (i : Nat) : (syncWindow i s).pb = s.pb := rfl
@[simp] theorem syncWindow_raw (i : Nat) : (syncWindow i s).raw = s.raw := rfl
@[simp] theorem syncWindow_crc (i : Nat) : (syncWindow i s).crc = s.crc := rfl
@[simp] theorem syncWindow_v0 (i : Nat) : (syncWindow i s).v0 = s.v0 := rfl
@[simp] theorem syncWindow_v1 (i : Nat) : (syncWindow i s).v1 = s.v1 := rfl
@[simp] theorem syncWindow_sum (i : Nat) : (syncWindow i s).sum = s.sum := rfl
@[simp] theorem syncWindow_lcerr (i : Nat) : (syncWindow i s).lcerr = s.lcerr := rfl
@[simp] theorem syncWindow_crcok (i : Nat) : (syncWindow i s).crcok = s.crcok := rfl
@[simp] theorem syncWindow_record (i : Nat) : (syncWindow i s).record = s.record := rfl
@[simp] theorem syncWindow_frames (i : Nat) : (syncWindow i s).frames = s.frames := rfl
@[simp] theorem syncWindow_consumed (i : Nat) : (syncWindow i s).consumed = s.consumed := rfl
@[simp] theorem syncWindow_matched (i : Nat) : (syncWindow i s).matched = s.matched := rfl
@[simp] theorem syncWindow_found (i : Nat) : (syncWindow i s).found = s.found := rfl
@[simp] theorem syncWindow_foundAt (i : Nat) : (syncWindow i s).foundAt = s.foundAt := rfl
@[simp] theorem syncWindow_symbol (i : Nat) : (syncWindow i s).symbol = s.symbol := rfl
@[simp] theorem syncWindow_text (i : Nat) : (syncWindow i s).text = s.text := rfl
@[simp] theorem syncWindow_failure (i : Nat) : (syncWindow i s).failure = s.failure := rfl

/-! `syncConsume` -/

@[simp] theorem syncConsume_cfg : (syncConsume s).cfg = s.cfg := rfl
@[simp] theorem syncConsume_sample : (syncConsume s).sample = s.sample := rfl
@[simp] theorem syncConsume_held : (syncConsume s).held = s.held := rfl
@[simp] theorem syncConsume_inbox : (syncConsume s).inbox = s.inbox := rfl
@[simp] theorem syncConsume_navail : (syncConsume s).navail = s.navail := rfl
@[simp] theorem syncConsume_cur : (syncConsume s).cur = s.cur := rfl
@[simp] theorem syncConsume_stage : (syncConsume s).stage = s.stage := rfl
@[simp] theorem syncConsume_win : (syncConsume s).win = s.win := rfl
@[simp] theorem syncConsume_pb : (syncConsume s).pb = s.pb := rfl
@[simp] theorem syncConsume_raw : (syncConsume s).raw = s.raw := rfl
@[simp] theorem syncConsume_crc : (syncConsume s).crc = s.crc := rfl
@[simp] theorem syncConsume_v0 : (syncConsume s).v0 = s.v0 := rfl
@[simp] theorem syncConsume_v1 : (syncConsume s).v1 = s.v1 := rfl
@[simp] theorem syncConsume_sum : (syncConsume s).sum = s.sum := rfl
@[simp] theorem syncConsume_lcerr : (syncConsume s).lcerr = s.lcerr := rfl
@[simp] theorem syncConsume_crcok : (syncConsume s).crcok = s.crcok := rfl
@[simp] theorem syncConsume_record : (syncConsume s).record = s.record := rfl
@[simp] theorem syncConsume_frames : (syncConsume s).frames = s.frames := rfl
@[simp] theorem syncConsume_consumed : (syncConsume s).consumed = if s.navail < windowBits then 0 else s.navail - retain := rfl
@[simp] theorem syncConsume_matched : (syncConsume s).matched = s.matched := rfl
@[simp] theorem syncConsume_found : (syncConsume s).found = s.found := rfl
@[simp] theorem syncConsume_foundAt : (syncConsume s).foundAt = s.foundAt := rfl
@[simp] theorem syncConsume_symbol : (syncConsume s).symbol = s.symbol := rfl
@[simp] theorem syncConsume_text : (syncConsume s).text = s.text := rfl
@[simp] theorem syncConsume_failure : (syncConsume s).failure = s.failure := rfl

/-! `lcValidate` -/

@[simp] theorem lcValidate_cfg : (lcValidate s).cfg = s.cfg := rfl
@[simp] theorem lcValidate_sample : (lcValidate s).sample = s.sample := rfl
@[simp] theorem lcValidate_held : (lcValidate s).held = s.held := rfl
@[simp] theorem lcValidate_inbox : (lcValidate s).inbox = s.inbox := rfl
@[simp] theorem lcValidate_navail : (lcValidate s).navail = s.navail := rfl
@[simp] theorem lcValidate_cur : (lcValidate s).cur = s.cur := rfl
@[simp] theorem lcValidate_stage : (lcValidate s).stage = s.stage := rfl
@[simp] theorem lcValidate_win : (lcValidate s).win = s.win := rfl
@[simp] theorem lcValidate_pb : (lcValidate s).pb = s.pb := rfl
@[simp] theorem lcValidate_raw : (lcValidate s).raw = s.raw := rfl
@[simp] theorem lcValidate_crc : (lcValidate s).crc = s.crc := rfl
@[simp] theorem lcValidate_v0 : (lcValidate s).v0 = s.v0 := rfl
@[simp] theorem lcValidate_v1 : (lcValidate s).v1 = s.v1 := rfl
@[simp] theorem lcValidate_sum : (lcValidate s).sum = s.sum := rfl
@[simp] theorem lcValidate_lcerr : (lcValidate s).lcerr = lineCodeError s.win := rfl
@[simp] theorem lcValidate_crcok : (lcValidate s).crcok = s.crcok := rfl
@[simp] theorem lcValidate_record : (lcValidate s).record = s.record := rfl
@[simp] theorem lcValidate_frames : (lcValidate s).frames = s.frames := rfl
@[simp] theorem lcValidate_consumed : (lcValidate s).consumed = s.consumed := rfl
@[simp] theorem lcValidate_matched : (lcValidate s).matched = s.matched := rfl
@[simp] theorem lcValidate_found : (lcValidate s).found = s.found := rfl
@[simp] theorem lcValidate_foundAt : (lcValidate s).foundAt = s.foundAt := rfl
@[simp] theorem lcValidate_symbol : (lcValidate s).symbol = s.symbol := rfl
@[simp] theorem lcValidate_text : (lcValidate s).text = s.text := rfl
@[simp] theorem lcValidate_failure : (lcValidate s).failure = s.failure := rfl

/-! `lcCollapse` -/

@[simp] theorem lcCollapse_cfg : (lcCollapse s).cfg = s.cfg := rfl
@[simp] theorem lcCollapse_sample : (lcCollapse s).sample = s.sample := rfl
@[simp] theorem lcCollapse_held : (lcCollapse s).held = s.held := rfl
@[simp] theorem lcCollapse_inbox : (lcCollapse s).inbox = s.inbox := rfl
@[simp] theorem lcCollapse_navail : (lcCollapse s).navail = s.navail := rfl
@[simp] theorem lcCollapse_cur : (lcCollapse s).cur = s.cur := rfl
@[simp] theorem lcCollapse_stage : (lcCollapse s).stage = s.stage := rfl
@[simp] theorem lcCollapse_win : (lcCollapse s).win = s.win := rfl
@[simp] theorem lcCollapse_pb : (lcCollapse s).pb = collapse s.win := rfl
@[simp] theorem lcCollapse_raw : (lcCollapse s).raw = s.raw := rfl
@[simp] theorem lcCollapse_crc : (lcCollapse s).crc = s.crc := rfl
@[simp] theorem lcCollapse_v0 : (lcCollapse s).v0 = s.v0 := rfl
@[simp] theorem lcCollapse_v1 : (lcCollapse s).v1 = s.v1 := rfl
@[simp] theorem lcCollapse_sum : (lcCollapse s).sum = s.sum := rfl
@[simp] theorem lcCollapse_lcerr : (lcCollapse s).lcerr = s.lcerr := rfl
@[simp] theorem lcCollapse_crcok : (lcCollapse s).crcok = s.crcok := rfl
@[simp] theorem lcCollapse_record : (lcCollapse s).record = s.record := rfl
@[simp] theorem lcCollapse_frames : (lcCollapse s).frames = s.frames := rfl
@[simp] theorem lcCollapse_consumed : (lcCollapse s).consumed = s.consumed := rfl
@[simp] theorem lcCollapse_matched : (lcCollapse s).matched = s.matched := rfl
@[simp] theorem lcCollapse_found : (lcCollapse s).found = s.found := rfl
@[simp] theorem lcCollapse_foundAt : (lcCollapse s).foundAt = s.foundAt := rfl
@[simp] theorem lcCollapse_symbol : (lcCollapse s).symbol = s.symbol := rfl
@[simp] theorem lcCollapse_text : (lcCollapse s).text = s.text := rfl
@[simp] theorem lcCollapse_failure : (lcCollapse s).failure = s.failure := rfl

/-! `lcPack` -/

@[simp] theorem lcPack_cfg : (lcPack s).cfg = s.cfg := rfl
@[simp] theorem lcPack_sample : (lcPack s).sample = s.sample := rfl
@[simp] theorem lcPack_held : (lcPack s).held = s.held := rfl
@[simp] theorem lcPack_inbox : (lcPack s).inbox = s.inbox := rfl
@[simp] theorem lcPack_navail : (lcPack s).navail = s.navail := rfl
@[simp] theorem lcPack_cur : (lcPack s).cur = s.cur := rfl
@[simp] theorem lcPack_stage : (lcPack s).stage = s.stage := rfl
@[simp] theorem lcPack_win : (lcPack s).win = s.win := rfl
@[simp] theorem lcPack_pb : (lcPack s).pb = s.pb := rfl
@[simp] theorem lcPack_raw : (lcPack s).raw = packFrame s.pb := rfl
@[simp] theorem lcPack_crc : (lcPack s).crc = s.crc := rfl
@[simp] theorem lcPack_v0 : (lcPack s).v0 = s.v0 := rfl
@[simp] theorem lcPack_v1 : (lcPack s).v1 = s.v1 := rfl
@[simp] theorem lcPack_sum : (lcPack s).sum = s.sum := rfl
@[simp] theorem lcPack_lcerr : (lcPack s).lcerr = s.lcerr := rfl
@[simp] theorem lcPack_crcok : (lcPack s).crcok = s.crcok := rfl
@[simp] theorem lcPack_record : (lcPack s).record = s.record := rfl
@[simp] theorem lcPack_frames : (lcPack s).frames = s.frames := rfl
@[simp] theorem lcPack_consumed : (lcPack s).consumed = s.consumed := rfl
@[simp] theorem lcPack_matched : (lcPack s).matched = s.matched := rfl
@[simp] theorem lcPack_found : (lcPack s).found = s.found := rfl
@[simp] theorem lcPack_foundAt : (lcPack s).foundAt = s.foundAt := rfl
@[simp] theorem lcPack_symbol : (lcPack s).symbol = s.symbol := rfl
@[simp] theorem lcPack_text : (lcPack s).text = s.text := rfl
@[simp] theorem lcPack_failure : (lcPack s).failure = s.failure := rfl

/-! `crcCheck` -/

@[simp] theorem crcCheck_cfg : (crcCheck s).cfg = s.cfg := rfl
@[simp] theorem crcCheck_sample : (crcCheck s).sample = s.sample := rfl
@[simp] theorem crcCheck_held : (crcCheck s).held = s.held := rfl
@[simp] theorem crcCheck_inbox : (crcCheck s).inbox = s.inbox := rfl
@[simp] theorem crcCheck_navail : (crcCheck s).navail = s.navail := rfl
@[simp] theorem crcCheck_cur : (crcCheck s).cur = s.cur := rfl
@[simp] theorem crcCheck_stage : (crcCheck s).stage = s.stage := rfl
@[simp] theorem crcCheck_win : (crcCheck s).win = s.win := rfl
@[simp] theorem crcCheck_pb : (crcCheck s).pb = s.pb := rfl
@[simp] theorem crcCheck_raw : (crcCheck s).raw = s.raw := rfl
@[simp] theorem crcCheck_crc : (crcCheck s).crc = residue s.raw := rfl
@[simp] theorem crcCheck_v0 : (crcCheck s).v0 = s.v0 := rfl
@[simp] theorem crcCheck_v1 : (crcCheck s).v1 = s.v1 := rfl
@[simp] theorem crcCheck_sum : (crcCheck s).sum = s.sum := rfl
@[simp] theorem crcCheck_lcerr : (crcCheck s).lcerr = s.lcerr := rfl
@[simp] theorem crcCheck_crcok : (crcCheck s).crcok = residueIsZero (residue s.raw) := rfl
@[simp] theorem crcCheck_record : (crcCheck s).record = s.record := rfl
@[simp] theorem crcCheck_frames : (crcCheck s).frames = s.frames := rfl
@[simp] theorem crcCheck_consumed : (crcCheck s).consumed = s.consumed := rfl
@[simp] theorem crcCheck_matched : (crcCheck s).matched = s.matched := rfl
@[simp] theorem crcCheck_found : (crcCheck s).found = s.found := rfl
@[simp] theorem crcCheck_foundAt : (crcCheck s).foundAt = s.foundAt := rfl
@[simp] theorem crcCheck_symbol : (crcCheck s).symbol = s.symbol := rfl
@[simp] theorem crcCheck_text : (crcCheck s).text = s.text := rfl
@[simp] theorem crcCheck_failure : (crcCheck s).failure = s.failure := rfl

/-! `xteaUnpack` -/

@[simp] theorem xteaUnpack_cfg (o : Fin 22) : (xteaUnpack o s).cfg = s.cfg := rfl
@[simp] theorem xteaUnpack_sample (o : Fin 22) : (xteaUnpack o s).sample = s.sample := rfl
@[simp] theorem xteaUnpack_held (o : Fin 22) : (xteaUnpack o s).held = s.held := rfl
@[simp] theorem xteaUnpack_inbox (o : Fin 22) : (xteaUnpack o s).inbox = s.inbox := rfl
@[simp] theorem xteaUnpack_navail (o : Fin 22) : (xteaUnpack o s).navail = s.navail := rfl
@[simp] theorem xteaUnpack_cur (o : Fin 22) : (xteaUnpack o s).cur = s.cur := rfl
@[simp] theorem xteaUnpack_stage (o : Fin 22) : (xteaUnpack o s).stage = s.stage := rfl
@[simp] theorem xteaUnpack_win (o : Fin 22) : (xteaUnpack o s).win = s.win := rfl
@[simp] theorem xteaUnpack_pb (o : Fin 22) : (xteaUnpack o s).pb = s.pb := rfl
@[simp] theorem xteaUnpack_raw (o : Fin 22) : (xteaUnpack o s).raw = s.raw := rfl
@[simp] theorem xteaUnpack_crc (o : Fin 22) : (xteaUnpack o s).crc = s.crc := rfl
@[simp] theorem xteaUnpack_sum (o : Fin 22) : (xteaUnpack o s).sum = s.sum := rfl
@[simp] theorem xteaUnpack_lcerr (o : Fin 22) : (xteaUnpack o s).lcerr = s.lcerr := rfl
@[simp] theorem xteaUnpack_crcok (o : Fin 22) : (xteaUnpack o s).crcok = s.crcok := rfl
@[simp] theorem xteaUnpack_record (o : Fin 22) : (xteaUnpack o s).record = s.record := rfl
@[simp] theorem xteaUnpack_frames (o : Fin 22) : (xteaUnpack o s).frames = s.frames := rfl
@[simp] theorem xteaUnpack_consumed (o : Fin 22) : (xteaUnpack o s).consumed = s.consumed := rfl
@[simp] theorem xteaUnpack_matched (o : Fin 22) : (xteaUnpack o s).matched = s.matched := rfl
@[simp] theorem xteaUnpack_found (o : Fin 22) : (xteaUnpack o s).found = s.found := rfl
@[simp] theorem xteaUnpack_foundAt (o : Fin 22) : (xteaUnpack o s).foundAt = s.foundAt := rfl
@[simp] theorem xteaUnpack_symbol (o : Fin 22) : (xteaUnpack o s).symbol = s.symbol := rfl
@[simp] theorem xteaUnpack_text (o : Fin 22) : (xteaUnpack o s).text = s.text := rfl
@[simp] theorem xteaUnpack_failure (o : Fin 22) : (xteaUnpack o s).failure = s.failure := rfl

/-! `xteaWb` -/

@[simp] theorem xteaWb_cfg (o : Fin 22) : (xteaWb o s).cfg = s.cfg := rfl
@[simp] theorem xteaWb_sample (o : Fin 22) : (xteaWb o s).sample = s.sample := rfl
@[simp] theorem xteaWb_held (o : Fin 22) : (xteaWb o s).held = s.held := rfl
@[simp] theorem xteaWb_inbox (o : Fin 22) : (xteaWb o s).inbox = s.inbox := rfl
@[simp] theorem xteaWb_navail (o : Fin 22) : (xteaWb o s).navail = s.navail := rfl
@[simp] theorem xteaWb_cur (o : Fin 22) : (xteaWb o s).cur = s.cur := rfl
@[simp] theorem xteaWb_stage (o : Fin 22) : (xteaWb o s).stage = s.stage := rfl
@[simp] theorem xteaWb_win (o : Fin 22) : (xteaWb o s).win = s.win := rfl
@[simp] theorem xteaWb_pb (o : Fin 22) : (xteaWb o s).pb = s.pb := rfl
@[simp] theorem xteaWb_raw (o : Fin 22) : (xteaWb o s).raw = writeRegion s.raw o (wbByte s.cfg.wbOrder s.v0 s.v1) := rfl
@[simp] theorem xteaWb_crc (o : Fin 22) : (xteaWb o s).crc = s.crc := rfl
@[simp] theorem xteaWb_v0 (o : Fin 22) : (xteaWb o s).v0 = s.v0 := rfl
@[simp] theorem xteaWb_v1 (o : Fin 22) : (xteaWb o s).v1 = s.v1 := rfl
@[simp] theorem xteaWb_sum (o : Fin 22) : (xteaWb o s).sum = s.sum := rfl
@[simp] theorem xteaWb_lcerr (o : Fin 22) : (xteaWb o s).lcerr = s.lcerr := rfl
@[simp] theorem xteaWb_crcok (o : Fin 22) : (xteaWb o s).crcok = s.crcok := rfl
@[simp] theorem xteaWb_record (o : Fin 22) : (xteaWb o s).record = s.record := rfl
@[simp] theorem xteaWb_frames (o : Fin 22) : (xteaWb o s).frames = s.frames := rfl
@[simp] theorem xteaWb_consumed (o : Fin 22) : (xteaWb o s).consumed = s.consumed := rfl
@[simp] theorem xteaWb_matched (o : Fin 22) : (xteaWb o s).matched = s.matched := rfl
@[simp] theorem xteaWb_found (o : Fin 22) : (xteaWb o s).found = s.found := rfl
@[simp] theorem xteaWb_foundAt (o : Fin 22) : (xteaWb o s).foundAt = s.foundAt := rfl
@[simp] theorem xteaWb_symbol (o : Fin 22) : (xteaWb o s).symbol = s.symbol := rfl
@[simp] theorem xteaWb_text (o : Fin 22) : (xteaWb o s).text = s.text := rfl
@[simp] theorem xteaWb_failure (o : Fin 22) : (xteaWb o s).failure = s.failure := rfl

/-! `xteaDec` -/

@[simp] theorem xteaDec_cfg (key : KeySel) (rounds : Nat) : (xteaDec key rounds s).cfg = s.cfg := rfl
@[simp] theorem xteaDec_sample (key : KeySel) (rounds : Nat) : (xteaDec key rounds s).sample = s.sample := rfl
@[simp] theorem xteaDec_held (key : KeySel) (rounds : Nat) : (xteaDec key rounds s).held = s.held := rfl
@[simp] theorem xteaDec_inbox (key : KeySel) (rounds : Nat) : (xteaDec key rounds s).inbox = s.inbox := rfl
@[simp] theorem xteaDec_navail (key : KeySel) (rounds : Nat) : (xteaDec key rounds s).navail = s.navail := rfl
@[simp] theorem xteaDec_cur (key : KeySel) (rounds : Nat) : (xteaDec key rounds s).cur = s.cur := rfl
@[simp] theorem xteaDec_stage (key : KeySel) (rounds : Nat) : (xteaDec key rounds s).stage = s.stage := rfl
@[simp] theorem xteaDec_win (key : KeySel) (rounds : Nat) : (xteaDec key rounds s).win = s.win := rfl
@[simp] theorem xteaDec_pb (key : KeySel) (rounds : Nat) : (xteaDec key rounds s).pb = s.pb := rfl
@[simp] theorem xteaDec_raw (key : KeySel) (rounds : Nat) : (xteaDec key rounds s).raw = s.raw := rfl
@[simp] theorem xteaDec_crc (key : KeySel) (rounds : Nat) : (xteaDec key rounds s).crc = s.crc := rfl
@[simp] theorem xteaDec_v0 (key : KeySel) (rounds : Nat) : (xteaDec key rounds s).v0 = (decBlock (keyFile s.cfg key) rounds s.v0 s.v1).v0 := rfl
@[simp] theorem xteaDec_v1 (key : KeySel) (rounds : Nat) : (xteaDec key rounds s).v1 = (decBlock (keyFile s.cfg key) rounds s.v0 s.v1).v1 := rfl
@[simp] theorem xteaDec_sum (key : KeySel) (rounds : Nat) : (xteaDec key rounds s).sum = (decBlock (keyFile s.cfg key) rounds s.v0 s.v1).sum := rfl
@[simp] theorem xteaDec_lcerr (key : KeySel) (rounds : Nat) : (xteaDec key rounds s).lcerr = s.lcerr := rfl
@[simp] theorem xteaDec_crcok (key : KeySel) (rounds : Nat) : (xteaDec key rounds s).crcok = s.crcok := rfl
@[simp] theorem xteaDec_record (key : KeySel) (rounds : Nat) : (xteaDec key rounds s).record = s.record := rfl
@[simp] theorem xteaDec_frames (key : KeySel) (rounds : Nat) : (xteaDec key rounds s).frames = s.frames := rfl
@[simp] theorem xteaDec_consumed (key : KeySel) (rounds : Nat) : (xteaDec key rounds s).consumed = s.consumed := rfl
@[simp] theorem xteaDec_matched (key : KeySel) (rounds : Nat) : (xteaDec key rounds s).matched = s.matched := rfl
@[simp] theorem xteaDec_found (key : KeySel) (rounds : Nat) : (xteaDec key rounds s).found = s.found := rfl
@[simp] theorem xteaDec_foundAt (key : KeySel) (rounds : Nat) : (xteaDec key rounds s).foundAt = s.foundAt := rfl
@[simp] theorem xteaDec_symbol (key : KeySel) (rounds : Nat) : (xteaDec key rounds s).symbol = s.symbol := rfl
@[simp] theorem xteaDec_text (key : KeySel) (rounds : Nat) : (xteaDec key rounds s).text = s.text := rfl
@[simp] theorem xteaDec_failure (key : KeySel) (rounds : Nat) : (xteaDec key rounds s).failure = s.failure := rfl

/-! `cipherBlock` -/

@[simp] theorem cipherBlock_cfg (o : Fin 22) (key : KeySel) : (cipherBlock o key s).cfg = s.cfg := rfl
@[simp] theorem cipherBlock_sample (o : Fin 22) (key : KeySel) : (cipherBlock o key s).sample = s.sample := rfl
@[simp] theorem cipherBlock_held (o : Fin 22) (key : KeySel) : (cipherBlock o key s).held = s.held := rfl
@[simp] theorem cipherBlock_inbox (o : Fin 22) (key : KeySel) : (cipherBlock o key s).inbox = s.inbox := rfl
@[simp] theorem cipherBlock_navail (o : Fin 22) (key : KeySel) : (cipherBlock o key s).navail = s.navail := rfl
@[simp] theorem cipherBlock_cur (o : Fin 22) (key : KeySel) : (cipherBlock o key s).cur = s.cur := rfl
@[simp] theorem cipherBlock_stage (o : Fin 22) (key : KeySel) : (cipherBlock o key s).stage = s.stage := rfl
@[simp] theorem cipherBlock_win (o : Fin 22) (key : KeySel) : (cipherBlock o key s).win = s.win := rfl
@[simp] theorem cipherBlock_pb (o : Fin 22) (key : KeySel) : (cipherBlock o key s).pb = s.pb := rfl
@[simp] theorem cipherBlock_crc (o : Fin 22) (key : KeySel) : (cipherBlock o key s).crc = s.crc := rfl
@[simp] theorem cipherBlock_lcerr (o : Fin 22) (key : KeySel) : (cipherBlock o key s).lcerr = s.lcerr := rfl
@[simp] theorem cipherBlock_crcok (o : Fin 22) (key : KeySel) : (cipherBlock o key s).crcok = s.crcok := rfl
@[simp] theorem cipherBlock_record (o : Fin 22) (key : KeySel) : (cipherBlock o key s).record = s.record := rfl
@[simp] theorem cipherBlock_frames (o : Fin 22) (key : KeySel) : (cipherBlock o key s).frames = s.frames := rfl
@[simp] theorem cipherBlock_consumed (o : Fin 22) (key : KeySel) : (cipherBlock o key s).consumed = s.consumed := rfl
@[simp] theorem cipherBlock_matched (o : Fin 22) (key : KeySel) : (cipherBlock o key s).matched = s.matched := rfl
@[simp] theorem cipherBlock_found (o : Fin 22) (key : KeySel) : (cipherBlock o key s).found = s.found := rfl
@[simp] theorem cipherBlock_foundAt (o : Fin 22) (key : KeySel) : (cipherBlock o key s).foundAt = s.foundAt := rfl
@[simp] theorem cipherBlock_symbol (o : Fin 22) (key : KeySel) : (cipherBlock o key s).symbol = s.symbol := rfl
@[simp] theorem cipherBlock_text (o : Fin 22) (key : KeySel) : (cipherBlock o key s).text = s.text := rfl
@[simp] theorem cipherBlock_failure (o : Fin 22) (key : KeySel) : (cipherBlock o key s).failure = s.failure := rfl

/-! `fxFrame` -/

@[simp] theorem fxFrame_cfg : (fxFrame s).cfg = s.cfg := rfl
@[simp] theorem fxFrame_sample : (fxFrame s).sample = s.sample := rfl
@[simp] theorem fxFrame_held : (fxFrame s).held = s.held := rfl
@[simp] theorem fxFrame_inbox : (fxFrame s).inbox = s.inbox := rfl
@[simp] theorem fxFrame_navail : (fxFrame s).navail = s.navail := rfl
@[simp] theorem fxFrame_cur : (fxFrame s).cur = s.cur := rfl
@[simp] theorem fxFrame_stage : (fxFrame s).stage = s.stage := rfl
@[simp] theorem fxFrame_win : (fxFrame s).win = s.win := rfl
@[simp] theorem fxFrame_pb : (fxFrame s).pb = s.pb := rfl
@[simp] theorem fxFrame_raw : (fxFrame s).raw = s.raw := rfl
@[simp] theorem fxFrame_crc : (fxFrame s).crc = s.crc := rfl
@[simp] theorem fxFrame_v0 : (fxFrame s).v0 = s.v0 := rfl
@[simp] theorem fxFrame_v1 : (fxFrame s).v1 = s.v1 := rfl
@[simp] theorem fxFrame_sum : (fxFrame s).sum = s.sum := rfl
@[simp] theorem fxFrame_lcerr : (fxFrame s).lcerr = s.lcerr := rfl
@[simp] theorem fxFrame_crcok : (fxFrame s).crcok = s.crcok := rfl
@[simp] theorem fxFrame_record : (fxFrame s).record = extractRecord s.raw := rfl
@[simp] theorem fxFrame_frames : (fxFrame s).frames = s.frames := rfl
@[simp] theorem fxFrame_consumed : (fxFrame s).consumed = s.consumed := rfl
@[simp] theorem fxFrame_matched : (fxFrame s).matched = s.matched := rfl
@[simp] theorem fxFrame_found : (fxFrame s).found = s.found := rfl
@[simp] theorem fxFrame_foundAt : (fxFrame s).foundAt = s.foundAt := rfl
@[simp] theorem fxFrame_symbol : (fxFrame s).symbol = s.symbol := rfl
@[simp] theorem fxFrame_text : (fxFrame s).text = s.text := rfl
@[simp] theorem fxFrame_failure : (fxFrame s).failure = s.failure := rfl

end Sys2Proof.Machine
end

