-- ==== Sys2Proof/Laws/Ops.lean ====
section
/-! SUPPORT. What each shared operation can do, said once: regions of the frame buffer, the search of the synchronizer,
the line-code flag, the stages of a window, the step. -/

namespace Sys2Proof.Machine

/-! The frame buffer. -/

/-- A byte of the written region. -/
theorem writeRegion_inside (raw : Vector Byte 29) (o : Fin 22) (v : Fin 8 → Byte) (j : Fin 8) :
    (writeRegion raw o v)[o.val + j.val] = v j := by
  simp [writeRegion]

/-- A byte outside the written region. -/
theorem writeRegion_outside (raw : Vector Byte 29) (o : Fin 22) (v : Fin 8 → Byte) (k : Fin 29)
    (h : k.val < o.val ∨ o.val + 8 ≤ k.val) : (writeRegion raw o v)[k.val] = raw[k.val] := by
  have : ¬(o.val ≤ k.val ∧ k.val < o.val + 8) := by omega
  simp [writeRegion, this]

/-- Reading a region that was just written. -/
theorem regionByte_writeRegion (raw : Vector Byte 29) (o : Fin 22) (v : Fin 8 → Byte) :
    regionByte (writeRegion raw o v) o = v :=
  funext fun j => writeRegion_inside raw o v j

/-- Reading a region that a write beside it does not touch. -/
theorem regionByte_writeRegion_of_disjoint (raw : Vector Byte 29) (o p : Fin 22) (v : Fin 8 → Byte)
    (h : p.val + 8 ≤ o.val ∨ o.val + 8 ≤ p.val) : regionByte (writeRegion raw o v) p = regionByte raw p :=
  funext fun j => writeRegion_outside raw o v ⟨p.val + j.val, by omega⟩ (by simp only; omega)

/-- An operation on a region inside the frame buffer completes; on any other it stops. -/
theorem onRegion_cases (o : Nat) (f : Fin 22 → State → State) (s : State) :
    (∃ h : o ≤ 21, onRegion o f s = .next (f ⟨o, Nat.lt_succ_of_le h⟩ s)) ∨
    (21 < o ∧ onRegion o f s = .fault .rawBeyondFrame) := by
  by_cases h : o ≤ 21
  · exact .inl ⟨h, by simp [onRegion, maxRegionOffset, h]⟩
  · exact .inr ⟨by omega, by simp [onRegion, maxRegionOffset, h]⟩

/-! The synchronizer. -/

/-- The search answers an offset exactly when it is the first match in its range. -/
theorem findMatch_eq_some {s : State} {count i k : Nat} :
    findMatch s count i = some k ↔
      i ≤ k ∧ k < i + count ∧ matchAt s k = true ∧ ∀ j, i ≤ j → j < k → matchAt s j = false := by
  induction count generalizing i with
  | zero => simp only [findMatch]; constructor
            · intro h; cases h
            · rintro ⟨h1, h2, -⟩; omega
  | succ count ih =>
    rw [findMatch]
    split
    · rename_i hm
      constructor
      · rintro h; cases h; exact ⟨Nat.le_refl _, by omega, hm, fun j h1 h2 => by omega⟩
      · rintro ⟨h1, -, -, h4⟩
        rcases Nat.lt_or_ge i k with h | h
        · simp [h4 i (Nat.le_refl _) h] at hm
        · rw [Nat.le_antisymm h h1]
    · rename_i hm
      rw [ih]
      constructor
      · rintro ⟨h1, h2, h3, h4⟩
        refine ⟨by omega, by omega, h3, fun j hj1 hj2 => ?_⟩
        rcases Nat.lt_or_ge i j with h | h
        · exact h4 j h hj2
        · rw [Nat.le_antisymm h hj1]; simpa using hm
      · rintro ⟨h1, h2, h3, h4⟩
        rcases Nat.lt_or_ge i k with h | h
        · exact ⟨h, by omega, h3, fun j hj1 hj2 => h4 j (by omega) hj2⟩
        · exact absurd (Nat.le_antisymm h h1 ▸ h3) hm

/-- The search answers nothing exactly when no offset of its range matches. -/
theorem findMatch_eq_none {s : State} {count i : Nat} :
    findMatch s count i = none ↔ ∀ j, i ≤ j → j < i + count → matchAt s j = false := by
  induction count generalizing i with
  | zero => simp only [findMatch, true_iff]; intro j h1 h2; omega
  | succ count ih =>
    rw [findMatch]
    split
    · rename_i hm
      simp only [reduceCtorEq, false_iff]
      intro h
      simp [h i (Nat.le_refl _) (by omega)] at hm
    · rename_i hm
      rw [ih]
      constructor
      · intro h j h1 h2
        rcases Nat.lt_or_ge i j with h' | h'
        · exact h j h' (by omega)
        · rw [Nat.le_antisymm h' h1]; simpa using hm
      · exact fun h j h1 h2 => h j (by omega) (by omega)

/-- What a scan can do: find the match at `i` and move the cursor past its window, or find nothing. -/
theorem syncScan_cases (s : State) :
    (∃ i, findMatch s (candidates s) s.cur = some i ∧
      syncScan s = { s with found := true, foundAt := i, cur := i + windowBits }) ∨
    (findMatch s (candidates s) s.cur = none ∧ syncScan s = { s with found := false }) := by
  unfold syncScan
  cases h : findMatch s (candidates s) s.cur with
  | some i => exact .inl ⟨i, rfl, rfl⟩
  | none => exact .inr ⟨rfl, rfl⟩

/-- Sample `2k` of the pattern is bit `23 - k` of `SYNC24`. -/
theorem sync48_even (c : Config) (k : Fin 24) : sync48 c ⟨2 * k.val, by omega⟩ = c.sync24.getLsbD (23 - k.val) := by
  simp [sync48, BitVec.getMsbD]

/-- Sample `2k + 1` is its complement. -/
theorem sync48_odd (c : Config) (k : Fin 24) : sync48 c ⟨2 * k.val + 1, by omega⟩ = !c.sync24.getLsbD (23 - k.val) := by
  have : (2 * k.val + 1) / 2 = k.val := by omega
  simp [sync48, BitVec.getMsbD, this]

/-- The compare answers 1 exactly where the pattern stands. -/
theorem matchAt_iff (s : State) (i : Nat) : matchAt s i = true ↔ PatternAt s i := by
  unfold matchAt PatternAt
  simp only [List.all_eq_true, List.mem_finRange, forall_const, beq_iff_eq, sampleBit]
  constructor
  · intro h k
    exact ⟨(h ⟨2 * k.val, by omega⟩).trans (sync48_even s.cfg k), (h ⟨2 * k.val + 1, by omega⟩).trans (sync48_odd s.cfg k)⟩
  · intro h k
    rcases Nat.mod_two_eq_zero_or_one k.val with hk | hk
    · obtain ⟨h, -⟩ := h ⟨k.val / 2, by omega⟩
      rw [← sync48_even] at h
      have e : 2 * (k.val / 2) = k.val := by omega
      simpa only [e] using h
    · obtain ⟨-, h⟩ := h ⟨k.val / 2, by omega⟩
      rw [← sync48_odd] at h
      have e : 2 * (k.val / 2) + 1 = k.val := by omega
      simpa only [e, Nat.add_assoc] using h

/-- See `matchAt_iff`. -/
theorem matchAt_eq_false_iff (s : State) (i : Nat) : matchAt s i = false ↔ ¬ PatternAt s i := by
  rw [← matchAt_iff, Bool.not_eq_true]

/-- Bit `k` of the window copied from offset `i` is bit 0 of sample `i + k`. -/
theorem windowAt_getElem (s : State) (i k : Nat) (h : k < 464) : (windowAt s i)[k]'h = sampleBit s (i + k) := by
  unfold windowAt
  exact BitVec.getElem_ofFnLE (fun k : Fin 464 => sampleBit s (i + k.val)) k h

/-! The line code. -/

/-- The flag is set exactly when some symbol pair has two equal samples. -/
theorem lineCodeError_iff (win : BitVec 464) :
    lineCodeError win = true ↔ ∃ k : Fin 232, win[2 * k.val] = win[2 * k.val + 1] := by
  simp [lineCodeError, List.any_eq_true]

/-- Bit `k` of the kept samples. -/
theorem collapse_getElem (win : BitVec 464) (k : Nat) (h : k < 232) : (collapse win)[k] = win[2 * k] := by
  simp [collapse, BitVec.getElem_ofFnLE]

/-- A legal window is collapsed and packed. -/
theorem lcDecode_of_legal {s : State} (h : lineCodeError s.win = false) :
    lcDecode s =
      { s with lcerr := false, pb := collapse s.win, raw := frameOf s.win, failure := none } := by
  have : (lcValidate s).lcerr = false := by simpa using h
  simp only [lcDecode, this, Bool.false_eq_true, if_false]
  unfold frameOf
  ext <;> simp [h]

/-- Any other window ends the operation after the flag. -/
theorem lcDecode_of_violation {s : State} (h : lineCodeError s.win = true) :
    lcDecode s = { s with lcerr := true, failure := some .lineCodeViolation } := by
  have : (lcValidate s).lcerr = true := by simpa using h
  simp only [lcDecode, this, if_true]
  ext <;> simp [h]

/-- The flag after LC.DECODE is that of the window. -/
theorem lcDecode_lcerr (s : State) : (lcDecode s).lcerr = lineCodeError s.win := by
  cases h : lineCodeError s.win
  · rw [lcDecode_of_legal h]
  · rw [lcDecode_of_violation h]

/-- The flag of CRC.CHECK says that the residue is zero. -/
theorem residueIsZero_iff (r : Half) : residueIsZero r = true ↔ r = 0 := beq_iff_eq

/-! The cipher. -/

/-- All that CIPHER.BLOCK does. -/
theorem cipherBlock_eq (o : Fin 22) (key : KeySel) (s : State) :
    cipherBlock o key s =
      { s with
        raw := decryptRegion s.cfg key o s.raw
        v0 := (decryptWords s.cfg key o s.raw).v0
        v1 := (decryptWords s.cfg key o s.raw).v1
        sum := (decryptWords s.cfg key o s.raw).sum } := by
  unfold decryptRegion decryptWords
  rfl

/-- All that CIPHER.FRAME does. -/
theorem cipherFrame_eq (s : State) :
    cipherFrame s =
      { s with
        raw := decryptFrame s.cfg s.raw
        v0 := (decryptWords s.cfg .b (regionB s.cfg) (decryptRegion s.cfg .a (regionA s.cfg) s.raw)).v0
        v1 := (decryptWords s.cfg .b (regionB s.cfg) (decryptRegion s.cfg .a (regionA s.cfg) s.raw)).v1
        sum := (decryptWords s.cfg .b (regionB s.cfg) (decryptRegion s.cfg .a (regionA s.cfg) s.raw)).sum } := by
  unfold cipherFrame decryptFrame
  rw [cipherBlock_eq, cipherBlock_eq]

/-- The cipher and extract stages are CIPHER.FRAME, FX.FRAME and the emission. -/
theorem decryptAndEmit_eq (s : State) :
    decryptAndEmit s = noFailure (emit (setStage .fx (fxFrame (cipherFrame s)))) := by
  unfold decryptAndEmit
  rw [cipherFrame_eq]
  unfold decryptFrame
  simp only [cipherBlock_eq]
  ext <;> simp

/-! The stages of a window. -/

/-- FRAME.PROCESS on a window that violates the line code. -/
theorem frameProcess_of_violation {s : State} (h : lineCodeError s.win = true) :
    frameProcess s = { s with stage := .lc, lcerr := true, failure := some .lineCodeViolation } := by
  have : (lcValidate (setStage .lc s)).lcerr = true := by simpa using h
  simp only [frameProcess, this, if_true]
  ext <;> simp [h]

/-- The state in which FRAME.PROCESS tests the checksum of a legal window. -/
theorem crcCheck_of_legal {s : State} (h : lineCodeError s.win = false) :
    crcCheck (setStage .crc (lcPack (lcCollapse (lcValidate (setStage .lc s))))) =
      { s with
        stage := .crc, lcerr := false, pb := collapse s.win, raw := frameOf s.win
        crc := residue (frameOf s.win), crcok := residueIsZero (residue (frameOf s.win)) } := by
  unfold frameOf
  ext <;> simp [h]

/-- FRAME.PROCESS past the line-code gate. -/
theorem frameProcess_of_legal {s : State} (h : lineCodeError s.win = false) :
    frameProcess s =
      if residueIsZero (residue (frameOf s.win)) then
        decryptAndEmit (crcCheck (setStage .crc (lcPack (lcCollapse (lcValidate (setStage .lc s))))))
      else
        raise .checksumMismatch (crcCheck (setStage .crc (lcPack (lcCollapse (lcValidate (setStage .lc s)))))) := by
  have hv : (lcValidate (setStage .lc s)).lcerr = false := by simpa using h
  have hc : (crcCheck (setStage .crc (lcPack (lcCollapse (lcValidate (setStage .lc s)))))).crcok =
      residueIsZero (residue (frameOf s.win)) := by
    rw [crcCheck_of_legal h]
  simp only [frameProcess, hv, hc, Bool.false_eq_true, if_false]

/-- FRAME.PROCESS on a legal window whose checksum does not match. -/
theorem frameProcess_of_mismatch {s : State} (h : lineCodeError s.win = false) (hr : residue (frameOf s.win) ≠ 0) :
    frameProcess s =
      { s with
        stage := .crc, lcerr := false, pb := collapse s.win, raw := frameOf s.win
        crc := residue (frameOf s.win), crcok := false, failure := some .checksumMismatch } := by
  have hz : residueIsZero (residue (frameOf s.win)) = false := by simpa [residueIsZero] using hr
  rw [frameProcess_of_legal h, hz, crcCheck_of_legal h, hz]
  rfl

/-- FRAME.PROCESS on a valid frame: the only outcome that appends a record. -/
theorem frameProcess_of_valid {s : State} (h : lineCodeError s.win = false) (hr : residue (frameOf s.win) = 0) :
    frameProcess s =
      { s with
        stage := .fx, lcerr := false, pb := collapse s.win, raw := decryptFrame s.cfg (frameOf s.win)
        crc := 0, crcok := true
        v0 := (decryptWords s.cfg .b (regionB s.cfg) (decryptRegion s.cfg .a (regionA s.cfg) (frameOf s.win))).v0
        v1 := (decryptWords s.cfg .b (regionB s.cfg) (decryptRegion s.cfg .a (regionA s.cfg) (frameOf s.win))).v1
        sum := (decryptWords s.cfg .b (regionB s.cfg) (decryptRegion s.cfg .a (regionA s.cfg) (frameOf s.win))).sum
        record := extractRecord (decryptFrame s.cfg (frameOf s.win))
        frames := s.frames ++ [extractRecord (decryptFrame s.cfg (frameOf s.win))]
        failure := none } := by
  have hz : residueIsZero (residue (frameOf s.win)) = true := by simpa [residueIsZero] using hr
  rw [frameProcess_of_legal h, if_pos hz, crcCheck_of_legal h, hz, hr, decryptAndEmit_eq, cipherFrame_eq]
  ext <;> simp

/-- FRAME.PROCESS has three outcomes, tested in this order. -/
theorem frameProcess_cases (s : State) :
    lineCodeError s.win = true ∨
    (lineCodeError s.win = false ∧ residue (frameOf s.win) ≠ 0) ∨
    (lineCodeError s.win = false ∧ residue (frameOf s.win) = 0) := by
  cases lineCodeError s.win
  · by_cases h : residue (frameOf s.win) = 0
    · exact .inr (.inr ⟨rfl, h⟩)
    · exact .inr (.inl ⟨rfl, h⟩)
  · exact .inl rfl

/-- One round of the loop of a call. -/
theorem decodeLoop_succ (k : Nat) (s : State) :
    decodeLoop (k + 1) s =
      if (syncScan s).found then
        decodeLoop k (setStage .scan (frameProcess (syncWindow (syncScan s).foundAt (syncScan s))))
      else syncScan s :=
  rfl

/-! The step. -/

/-- What a step can do: decode the next buffer, or wait. -/
theorem step_cases (s : State) :
    (∃ buf rest, s.inbox = buf :: rest ∧ step s = exec (.decodeCall buf.length) (present buf rest s)) ∨
    (s.inbox = [] ∧ step s = .next s) := by
  unfold step
  cases s.inbox with
  | cons buf rest => exact .inl ⟨buf, rest, rfl, rfl⟩
  | nil => exact .inr ⟨rfl, rfl⟩

/-- A step with a buffer presented is the call on it. -/
theorem step_of_cons {s : State} {buf : List Byte} {rest : List (List Byte)} (h : s.inbox = buf :: rest) :
    step s = exec (.decodeCall buf.length) (present buf rest s) := by
  unfold step
  rw [h]

/-- A step with no buffer presented changes nothing. -/
theorem step_of_nil {s : State} (h : s.inbox = []) : step s = .next s := by
  unfold step
  rw [h]

/-- A row that decodes to an operation with a program puts that program first in the inbox. -/
theorem withFetchWord_of_program {s : State} {nbits w : Nat} {i : Instr} {buf : List Byte}
    (hi : decodeTableWord nbits w = some i) (hp : programFor s.cfg i = some buf) :
    s.withFetchWord nbits w = { s with inbox := buf :: s.inbox } := by
  simp [State.withFetchWord, hi, hp]

end Sys2Proof.Machine
end

