-- ==== Sys2Proof/Laws/PerInstr.lean ====
section
/-! SUPPORT. The family EncodedForm: an operation is written with the number of its component (30_encoding R111) and
with as many operands as its number takes; a symbol pair is written as two samples (R92). -/

namespace Sys2Proof.Laws.EncodedForm

/-- The component of an operation, the high nibble of its number (R111); a symbol pair has none. -/
def component : Instr → Option Nat
  | .decodeCall _ | .frameProcess => some 0
  | .syncMatch _ | .syncScan | .syncWindow _ | .syncConsume => some 1
  | .lcSym _ _ | .lcValidate | .lcCollapse | .lcPack | .lcDecode => some 2
  | .crcInit | .crcBit _ | .crcByte _ | .crcFinal | .crcCheck => some 3
  | .xteaUnpack _ | .xteaDround _ | .xteaDec _ _ | .xteaWb _ | .cipherBlock _ _ | .cipherFrame
  | .xteaEround _ | .xteaEnc _ _ => some 4
  | .fxId | .fxIdhex | .fxLat | .fxLon | .fxAlt | .fxVs | .fxStealth | .fxType | .fxNs | .fxEw | .fxFrame => some 5
  | .symZero | .symOne | .symIllegal00 | .symIllegal11 => none

/-- The word of the operation has the form the table gives it. -/
def Statement (i : Instr) : Prop :=
  match encode i with
  | .op code operands =>
    component i = some (code.toNat / 16) ∧ operands.length = operandCount code
  | .sym _ _ => component i = none

theorem decodeCall (n : Nat) : Statement (.decodeCall n) := ⟨rfl, rfl⟩

theorem frameProcess : Statement .frameProcess := ⟨rfl, rfl⟩

theorem syncMatch (i : Nat) : Statement (.syncMatch i) := ⟨rfl, rfl⟩

theorem syncScan : Statement .syncScan := ⟨rfl, rfl⟩

theorem syncWindow (i : Nat) : Statement (.syncWindow i) := ⟨rfl, rfl⟩

theorem syncConsume : Statement .syncConsume := ⟨rfl, rfl⟩

theorem lcSym (a b : Bool) : Statement (.lcSym a b) := ⟨rfl, rfl⟩

theorem lcValidate : Statement .lcValidate := ⟨rfl, rfl⟩

theorem lcCollapse : Statement .lcCollapse := ⟨rfl, rfl⟩

theorem lcPack : Statement .lcPack := ⟨rfl, rfl⟩

theorem lcDecode : Statement .lcDecode := ⟨rfl, rfl⟩

theorem crcInit : Statement .crcInit := ⟨rfl, rfl⟩

theorem crcBit (d : Bool) : Statement (.crcBit d) := ⟨rfl, rfl⟩

theorem crcByte (b : Byte) : Statement (.crcByte b) := ⟨rfl, rfl⟩

theorem crcFinal : Statement .crcFinal := ⟨rfl, rfl⟩

theorem crcCheck : Statement .crcCheck := ⟨rfl, rfl⟩

theorem xteaUnpack (o : Nat) : Statement (.xteaUnpack o) := ⟨rfl, rfl⟩

theorem xteaDround (key : KeySel) : Statement (.xteaDround key) := ⟨rfl, rfl⟩

theorem xteaDec (key : KeySel) (rounds : Nat) : Statement (.xteaDec key rounds) := ⟨rfl, rfl⟩

theorem xteaWb (o : Nat) : Statement (.xteaWb o) := ⟨rfl, rfl⟩

theorem cipherBlock (o : Nat) (key : KeySel) : Statement (.cipherBlock o key) := ⟨rfl, rfl⟩

theorem cipherFrame : Statement .cipherFrame := ⟨rfl, rfl⟩

theorem xteaEround (key : KeySel) : Statement (.xteaEround key) := ⟨rfl, rfl⟩

theorem xteaEnc (key : KeySel) (rounds : Nat) : Statement (.xteaEnc key rounds) := ⟨rfl, rfl⟩

theorem fxId : Statement .fxId := ⟨rfl, rfl⟩

theorem fxIdhex : Statement .fxIdhex := ⟨rfl, rfl⟩

theorem fxLat : Statement .fxLat := ⟨rfl, rfl⟩

theorem fxLon : Statement .fxLon := ⟨rfl, rfl⟩

theorem fxAlt : Statement .fxAlt := ⟨rfl, rfl⟩

theorem fxVs : Statement .fxVs := ⟨rfl, rfl⟩

theorem fxStealth : Statement .fxStealth := ⟨rfl, rfl⟩

theorem fxType : Statement .fxType := ⟨rfl, rfl⟩

theorem fxNs : Statement .fxNs := ⟨rfl, rfl⟩

theorem fxEw : Statement .fxEw := ⟨rfl, rfl⟩

theorem fxFrame : Statement .fxFrame := ⟨rfl, rfl⟩

theorem symZero : Statement .symZero := rfl

theorem symOne : Statement .symOne := rfl

theorem symIllegal00 : Statement .symIllegal00 := rfl

theorem symIllegal11 : Statement .symIllegal11 := rfl

end Sys2Proof.Laws.EncodedForm
end

