-- ==== Sys2Proof/Tests/Slice0.lean ====
section
/-! SUPPORT. Tests: one step each, expected values from the examples and vectors of the spec; and for every statement
with hypotheses a witness that meets them. The pattern and the keys are the test-only ones of 95_test_vectors. -/

namespace Sys2Proof.Tests

open Sys2Proof Sys2Proof.Machine

set_option Elab.async false

/-! ## Helpers -/

/-- The test-only configuration (95_test_vectors, Conventions). -/
def cfgT : Config where
  sync24 := 0xA5C396
  keyA := #v[0x00010203, 0x04050607, 0x08090A0B, 0x0C0D0E0F]
  keyB := #v[0x10111213, 0x14151617, 0x18191A1B, 0x1C1D1E1F]
  rounds := 6
  byteOrder := .le
  cipherOffA := 7
  wbOrder := .revWord

/-- A small concrete state: the reset state with the test configuration and every register zero. -/
def blank : State :=
  { State.reset with
    cfg := cfgT, win := 0, pb := 0, raw := Vector.replicate 29 0, crc := 0, v0 := 0, v1 := 0, sum := 0
    lcerr := false, crcok := false
    record :=
      { id := 0, lat := 0, lon := 0, alt := 0, vs := 0, stealth := false, type := 0
        ns := #v[0, 0, 0, 0], ew := #v[0, 0, 0, 0] } }

/-- The operation answers a next state whose part `f` is `v`. -/
def gives {α : Type} [DecidableEq α] (r : Result) (f : State → α) (v : α) : Bool :=
  match r with
  | .next t => decide (f t = v)
  | _ => false

/-- The operation answers this fault. -/
def faults (r : Result) (f : Fault) : Bool :=
  match r with
  | .fault g => decide (g = f)
  | _ => false

/-- The operation answers this refusal. -/
def refuses (r : Result) (f : Refusal) : Bool :=
  match r with
  | .refused g => decide (g = f)
  | _ => false

/-- Samples from hex packed eight a byte, first sample in the most significant bit (95_test_vectors, Conventions). -/
def samples (count packed : Nat) : List Byte :=
  (List.range count).map fun k => if packed.testBit (count - 1 - k) then 1 else 0

/-- A window from the same form. -/
def windowBitsOf (packed : Nat) : BitVec 464 :=
  BitVec.ofFnLE fun k : Fin 464 => packed.testBit (463 - k.val)

/-- W1, hex-packed (95_test_vectors V6). -/
def hexW1 : Nat := 0x9966a55a9669a6aa69a9a555555556696669695a55656555a6a555559969a995695a655a59a695a5aa5a699966a55555a5555555555555699669

/-- W2, hex-packed (95_test_vectors V6). -/
def hexW2 : Nat := 0x9966a55a966955565559555aaaaaa656a5a659666596aa65559a99a9a55559a6669aa9669a5559956a9995a659a59999955566666a6aa65a6aaa

/-- R1 (95_test_vectors V6). -/
def r1 : Vector Byte 29 :=
  #v[0xa5, 0xc3, 0x96, 0xdf, 0x6e, 0xc0, 0x00, 0x16, 0x56, 0x63, 0x04, 0x40, 0xdc, 0x00, 0xa6,
    0xe8, 0x63, 0x43, 0x2d, 0x8c, 0xf3, 0x6a, 0x5c, 0x00, 0xc0, 0x00, 0x00, 0x06, 0x96]

/-- R1 after CIPHER.FRAME (95_test_vectors V6). -/
def r1Plain : Vector Byte 29 :=
  #v[0xa5, 0xc3, 0x96, 0xdf, 0x6e, 0xc0, 0x00, 0x34, 0x12, 0xcd, 0xab, 0xe8, 0xe3, 0x7e, 0xa0,
    0x01, 0xff, 0x7f, 0x80, 0x00, 0x02, 0xfe, 0x64, 0x00, 0xc0, 0x00, 0x00, 0x06, 0x96]

/-- R2 (95_test_vectors V6). -/
def r2 : Vector Byte 29 :=
  #v[0xa5, 0xc3, 0x96, 0x01, 0x02, 0x03, 0xff, 0xd1, 0xcd, 0x25, 0x49, 0xf4, 0x0b, 0xae, 0xc0,
    0x2d, 0x5b, 0xe5, 0xb0, 0x28, 0x7a, 0x8d, 0x2c, 0xaa, 0x80, 0x55, 0x77, 0xd3, 0x7f]

/-- The telemetry T1 (95_test_vectors V5.1). -/
def t1 : Vector Byte 24 :=
  #v[0xdf, 0x6e, 0xc0, 0x00, 0x34, 0x12, 0xcd, 0xab, 0xe8, 0xe3, 0x7e, 0xa0, 0x01, 0xff, 0x7f, 0x80, 0x00, 0x02, 0xfe, 0x64, 0x00, 0xc0, 0x00, 0x00]

/-- The record of frame 1 (95_test_vectors V6). -/
def record1 : Record where
  id := 0xC06EDF
  lat := 4660
  lon := 43981
  alt := 1000
  vs := 4088
  stealth := true
  type := 8
  ns := #v[1, -1, 127, -128]
  ew := #v[0, 2, -2, 100]

/-- A frame with given telemetry bytes 9, 10 and 21, the others zero (95_test_vectors V5.2). -/
def speedFrame (t9 t10 t21 : Byte) : Vector Byte 29 :=
  (((Vector.replicate 29 0).set 12 t9).set 13 t10).set 24 t21

/-- A buffer as the presented sample space, `NAVAIL` being its length. -/
def given (buf : List Byte) : State := { present buf [] blank with navail := buf.length }

/-- `SYNC48` of the test pattern, hex-packed (95_test_vectors, Conventions). -/
def hexSync48 : Nat := 0x9966a55a9669

/-! ## Well-formed operations and decoding -/

/-- Each check of WellFormed refuses a region that leaves the frame buffer, and takes the last one that does not. -/
theorem test_wellFormed :
    (Instr.xteaUnpack 22).wellFormed = false ∧ (Instr.xteaUnpack 21).wellFormed = true ∧
    (Instr.xteaWb 22).wellFormed = false ∧ (Instr.xteaWb 21).wellFormed = true ∧
    (Instr.cipherBlock 22 .a).wellFormed = false ∧ (Instr.cipherBlock 21 .b).wellFormed = true := by
  decide

/-- What the decoder rejects, by name. -/
theorem test_decode_rejects :
    decode (.op 0x02 []) = .error (.reservedCode 0x02) ∧ decode (.op 0x60 [1, 2]) = .error (.reservedCode 0x60) ∧
    decode (.op 0x11 [0]) = .error (.operandCount 0x11) ∧ decode (.op 0x44 [7]) = .error (.operandCount 0x44) ∧
    decode (.op 0x20 [0, 2]) = .error (.operandRange 0x20) ∧ decode (.op 0x31 [2]) = .error (.operandRange 0x31) ∧
    decode (.op 0x32 [256]) = .error (.operandRange 0x32) ∧ decode (.op 0x40 [22]) = .error (.operandRange 0x40) ∧
    decode (.op 0x41 [2]) = .error (.operandRange 0x41) ∧ decode (.op 0x44 [22, 0]) = .error (.operandRange 0x44) :=
  ⟨rfl, rfl, rfl, rfl, rfl, rfl, rfl, rfl, rfl, rfl⟩

/-- The rows of component 0 (30_encoding R110). -/
theorem test_decode_pipeline :
    decode (.op 0x00 [479]) = .ok (.decodeCall 479) ∧ decode (.op 0x01 []) = .ok .frameProcess :=
  ⟨rfl, rfl⟩

/-- The rows of the synchronizer. -/
theorem test_decode_sync :
    decode (.op 0x10 [10]) = .ok (.syncMatch 10) ∧ decode (.op 0x11 []) = .ok .syncScan ∧
    decode (.op 0x12 [933]) = .ok (.syncWindow 933) ∧ decode (.op 0x13 []) = .ok .syncConsume :=
  ⟨rfl, rfl, rfl, rfl⟩

/-- The rows of the line-code decoder. -/
theorem test_decode_lineCode :
    decode (.op 0x20 [0, 1]) = .ok (.lcSym false true) ∧ decode (.op 0x21 []) = .ok .lcValidate ∧
    decode (.op 0x22 []) = .ok .lcCollapse ∧ decode (.op 0x23 []) = .ok .lcPack ∧
    decode (.op 0x24 []) = .ok .lcDecode :=
  ⟨rfl, rfl, rfl, rfl, rfl⟩

/-- The rows of the checksum validator. -/
theorem test_decode_crc :
    decode (.op 0x30 []) = .ok .crcInit ∧ decode (.op 0x31 [1]) = .ok (.crcBit true) ∧
    decode (.op 0x32 [0xA5]) = .ok (.crcByte 0xA5) ∧ decode (.op 0x33 []) = .ok .crcFinal ∧
    decode (.op 0x34 []) = .ok .crcCheck :=
  ⟨rfl, rfl, rfl, rfl, rfl⟩

/-- The rows of the cipher. -/
theorem test_decode_cipher :
    decode (.op 0x40 [7]) = .ok (.xteaUnpack 7) ∧ decode (.op 0x41 [1]) = .ok (.xteaDround .b) ∧
    decode (.op 0x42 [0, 6]) = .ok (.xteaDec .a 6) ∧ decode (.op 0x43 [15]) = .ok (.xteaWb 15) ∧
    decode (.op 0x44 [15, 1]) = .ok (.cipherBlock 15 .b) ∧ decode (.op 0x45 []) = .ok .cipherFrame ∧
    decode (.op 0x46 [0]) = .ok (.xteaEround .a) ∧ decode (.op 0x47 [1, 32]) = .ok (.xteaEnc .b 32) :=
  ⟨rfl, rfl, rfl, rfl, rfl, rfl, rfl, rfl⟩

/-- The rows of the extractor. -/
theorem test_decode_extract :
    decode (.op 0x50 []) = .ok .fxId ∧ decode (.op 0x51 []) = .ok .fxIdhex ∧ decode (.op 0x52 []) = .ok .fxLat ∧
    decode (.op 0x53 []) = .ok .fxLon ∧ decode (.op 0x54 []) = .ok .fxAlt ∧ decode (.op 0x55 []) = .ok .fxVs ∧
    decode (.op 0x56 []) = .ok .fxStealth ∧ decode (.op 0x57 []) = .ok .fxType ∧ decode (.op 0x58 []) = .ok .fxNs ∧
    decode (.op 0x59 []) = .ok .fxEw ∧ decode (.op 0x5A []) = .ok .fxFrame :=
  ⟨rfl, rfl, rfl, rfl, rfl, rfl, rfl, rfl, rfl, rfl, rfl⟩

/-- The four symbols (30_encoding R92). -/
theorem test_decode_symbols :
    decode (.sym false true) = .ok .symZero ∧ decode (.sym true false) = .ok .symOne ∧
    decode (.sym false false) = .ok .symIllegal00 ∧ decode (.sym true true) = .ok .symIllegal11 :=
  ⟨rfl, rfl, rfl, rfl⟩

/-- Rows of opcode_table.json as the host numbers them; a number of two bits is a symbol. -/
theorem test_tableWord :
    decodeTableWord 8 0x01 = some .frameProcess ∧ decodeTableWord 8 0x5A = some .fxFrame ∧
    decodeTableWord 8 0x20 = some (.lcSym false false) ∧ decodeTableWord 8 0x44 = some (.cipherBlock 0 .a) ∧
    decodeTableWord 2 0 = some .symIllegal00 ∧ decodeTableWord 2 1 = some .symZero ∧
    decodeTableWord 2 2 = some .symOne ∧ decodeTableWord 8 3 = some .symIllegal11 ∧
    decodeTableWord 8 0xFF = none :=
  ⟨rfl, rfl, rfl, rfl, rfl, rfl, rfl, rfl, rfl⟩

/-- The next step runs the program of a row: DECODE.CALL on no samples; and, for SYM.ILLEGAL11, a window that the line
code rejects. What no call runs, and what is no row, places nothing. -/
theorem test_fetch :
    gives (step (blank.withFetchWord 8 0x00)) (fun t => (t.frames, t.consumed, t.inbox)) ([], 0, []) = true ∧
    gives (step (blank.withFetchWord 2 3)) (fun t => (t.frames, t.lcerr, t.consumed)) ([], true, 1) = true ∧
    blank.withFetchWord 8 0x47 = blank ∧ blank.withFetchWord 8 0xFF = blank := by
  decide +kernel

/-- The program of CRC.BYTE is a frame that passes every stage. -/
theorem test_fetch_frame :
    gives (step (blank.withFetchWord 8 0x32)) (fun t => (t.frames.length, t.lcerr, t.crcok, t.consumed))
      (1, false, true, 1) = true := by
  decide +kernel

/-! ## Frame Synchronizer (V1) -/

/-- V1.1, and V1.5 at an odd offset. -/
theorem test_syncMatch :
    gives (exec (.syncMatch 0) (given (samples 48 hexSync48))) (·.matched) true = true ∧
    gives (exec (.syncMatch 1) (given (0 :: samples 48 hexSync48))) (·.matched) true = true := by
  decide +kernel

/-- V1.2 and V1.3: the first or the last sample inverted; and one sample too few. -/
theorem test_syncMatch_not :
    gives (exec (.syncMatch 0) (given (samples 48 (hexSync48 ^^^ 2 ^ 47)))) (·.matched) false = true ∧
    gives (exec (.syncMatch 0) (given (samples 48 (hexSync48 ^^^ 1)))) (·.matched) false = true ∧
    faults (exec (.syncMatch 1) (given (samples 48 hexSync48))) .sampleBeyondCount = true := by
  decide +kernel

/-- V1.9: the window ends exactly at the last sample. -/
theorem test_syncScan :
    gives (exec .syncScan (given (samples 500 (hexSync48 * 2 ^ 416)))) (fun t => (t.found, t.foundAt, t.cur))
      (true, 36, 500) = true := by
  decide +kernel

/-- V1.8: one offset later the window would end past the data; the cursor stays. -/
theorem test_syncScan_not :
    gives (exec .syncScan (given (samples 500 (hexSync48 * 2 ^ 415)))) (fun t => (t.found, t.cur)) (false, 0) = true := by
  decide +kernel

/-- Samples 10 .. 473 (40_frame_sync R136), and the first offset at which the window does not fit. -/
theorem test_syncWindow :
    gives (exec (.syncWindow 10) (given (samples 479 (hexW1 * 2 ^ 5)))) (·.win) (windowBitsOf hexW1) = true ∧
    faults (exec (.syncWindow 16) (given (samples 479 (hexW1 * 2 ^ 5)))) .sampleBeyondCount = true := by
  decide +kernel

/-- V1.11. -/
theorem test_syncConsume :
    ([(0, 0), (463, 0), (464, 1), (479, 16), (1398, 935)] : List (Nat × Nat)).all (fun p =>
      gives (exec .syncConsume { blank with navail := p.1 }) (·.consumed) p.2) = true := by
  decide +kernel

/-! ## Line-Code Decoder (V2) -/

/-- V2.1. -/
theorem test_lcSym :
    gives (exec (.lcSym false true) blank) (·.symbol) (.payload false) = true ∧
    gives (exec (.lcSym true false) blank) (·.symbol) (.payload true) = true ∧
    gives (exec (.lcSym false false) blank) (·.symbol) .violation = true ∧
    gives (exec (.lcSym true true) blank) (·.symbol) .violation = true := by
  decide +kernel

/-- The four symbols (30_encoding R92). -/
theorem test_symbols :
    gives (exec .symZero blank) (·.symbol) (.payload false) = true ∧
    gives (exec .symOne blank) (·.symbol) (.payload true) = true ∧
    gives (exec .symIllegal00 { blank with symbol := .payload true }) (·.symbol) .violation = true ∧
    gives (exec .symIllegal11 { blank with symbol := .payload true }) (·.symbol) .violation = true := by
  decide +kernel

/-- W1 is legal; with its last pair both 1 it is not (V2.8). -/
theorem test_lcValidate :
    gives (exec .lcValidate { blank with win := windowBitsOf hexW1, lcerr := true }) (·.lcerr) false = true ∧
    gives (exec .lcValidate { blank with win := windowBitsOf (hexW1 ||| 3) }) (·.lcerr) true = true := by
  decide +kernel

/-- V2.4: `WIN[0..7] = 1,0,0,1,1,0,0,1` gives `PB[0..3] = 1,0,1,0`. -/
theorem test_lcCollapse :
    gives (exec .lcCollapse { blank with win := windowBitsOf hexW1 }) (fun t => (List.range 8).map t.pb.getLsbD)
      [true, false, true, false, false, true, false, true] = true := by
  decide +kernel

/-- V2.4: `PB[0..7] = 1,0,1,0,0,1,0,1` gives `RAW[0] = 0xA5`. -/
theorem test_lcPack :
    gives (exec .lcPack { blank with pb := 0b10100101 }) (fun t => (t.raw[0], t.raw[1])) (0xA5, 0) = true := by
  decide +kernel

/-- V2.5: W1 gives R1. -/
theorem test_lcDecode :
    gives (exec .lcDecode { blank with win := windowBitsOf hexW1 }) (fun t => (t.raw, t.lcerr, t.failure))
      (r1, false, none) = true := by
  decide +kernel

/-- V2.6: sample 201 set to the value of sample 200, which is 1; no byte is written. -/
theorem test_lcDecode_violation :
    gives (exec .lcDecode { blank with win := windowBitsOf (hexW1 ||| 2 ^ 262) }) (fun t => (t.raw, t.lcerr, t.failure))
      (blank.raw, true, some .lineCodeViolation) = true := by
  decide +kernel

/-! ## Frame Checksum Validator (V3) -/

/-- R171, R176. -/
theorem test_crcInit_crcFinal :
    gives (exec .crcInit blank) (·.crc) 0xFFFF = true ∧
    gives (exec .crcFinal { blank with crc := 0xFFFF }) (·.crc) 0x6CCA = true := by
  decide +kernel

/-- The corner cases of R172. -/
theorem test_crcBit :
    gives (exec (.crcBit false) { blank with crc := 0x8000 }) (·.crc) 0x1021 = true ∧
    gives (exec (.crcBit true) { blank with crc := 0x7FFF }) (·.crc) 0xFFFF = true ∧
    gives (exec (.crcBit true) { blank with crc := 0xFFFF }) (·.crc) 0xEFDE = true := by
  decide +kernel

/-- R174. -/
theorem test_crcByte :
    gives (exec (.crcByte 0xA5) { blank with crc := 0xFFFF }) (·.crc) 0xE155 = true ∧
    gives (exec (.crcByte 0xC3) { blank with crc := 0xE155 }) (·.crc) 0xB8CC = true := by
  decide +kernel

/-- V3.9. -/
theorem test_crcCheck :
    gives (exec .crcCheck { blank with raw := r1 }) (fun t => (t.crc, t.crcok)) (0, true) = true := by
  decide +kernel

/-- V3.11. -/
theorem test_crcCheck_mismatch :
    gives (exec .crcCheck { blank with raw := r2.set 18 0xb2, crcok := true }) (fun t => (t.crc, t.crcok))
      (0xC667, false) = true := by
  decide +kernel

/-! ## Block Cipher Engine (V4) -/

/-- V4.5, both byte orders. -/
theorem test_xteaUnpack :
    gives (exec (.xteaUnpack 7) { blank with raw := r1 }) (fun t => (t.v0, t.v1)) (0x04635616, 0xA600DC40) = true ∧
    gives (exec (.xteaUnpack 7) { blank with raw := r1, cfg := { cfgT with byteOrder := .be } })
      (fun t => (t.v0, t.v1)) (0x16566304, 0x40DC00A6) = true ∧
    faults (exec (.xteaUnpack 22) blank) .rawBeyondFrame = true := by
  decide +kernel

/-- The first round of V4.3. -/
theorem test_xteaDround :
    gives (exec (.xteaDround .a) { blank with v0 := 0x01234567, v1 := 0x89ABCDEF, sum := 0xB54CDA56 })
      (fun t => (t.sum, t.v0, t.v1)) (0x1715609D, 0xD017F899, 0xB7725448) = true := by
  decide +kernel

/-- V4.1 with the second key. -/
theorem test_xteaDec :
    gives (exec (.xteaDec .b 6) { blank with v0 := 0x01234567, v1 := 0x89ABCDEF })
      (fun t => (t.sum, t.v0, t.v1)) (0, 0x6C2CC614, 0x900F3752) = true := by
  decide +kernel

/-- V4.6, the published vector of 32 rounds. -/
theorem test_xteaDec_published :
    gives (exec (.xteaDec .a 32) { blank with v0 := 0x497DF3D0, v1 := 0x72612CB5 })
      (fun t => (t.v0, t.v1)) (0x41424344, 0x45464748) = true := by
  decide +kernel

/-- The first word of R204's example: `V0 <- 0x00010203`, `SUM <- 0x9E3779B9`. -/
theorem test_xteaEround :
    gives (exec (.xteaEround .a) blank) (fun t => (t.v0, t.sum)) (0x00010203, 0x9E3779B9) = true := by
  decide +kernel

/-- V4.2 and V4.6. -/
theorem test_xteaEnc :
    gives (exec (.xteaEnc .b 6) { blank with v0 := 0xDEADBEEF, v1 := 0x00000001 })
      (fun t => (t.v0, t.v1)) (0x1E55B965, 0x025D6D88) = true ∧
    gives (exec (.xteaEnc .a 32) { blank with v0 := 0x41424344, v1 := 0x45464748 })
      (fun t => (t.v0, t.v1)) (0x497DF3D0, 0x72612CB5) = true := by
  decide +kernel

/-- V4.5: the default write-back; the bytes beside the region stay. -/
theorem test_xteaWb :
    gives (exec (.xteaWb 7) { blank with v0 := 0x3412CDAB, v1 := 0xE8E37EA0, raw := r1 })
      (fun t => (t.raw.toList.drop 6).take 10)
      [0x00, 0x34, 0x12, 0xcd, 0xab, 0xe8, 0xe3, 0x7e, 0xa0, 0xe8] = true := by
  decide +kernel

/-- V4.5: the two other write-back orders. -/
theorem test_xteaWb_alternatives :
    gives (exec (.xteaWb 7) { blank with v0 := 0x3412CDAB, v1 := 0xE8E37EA0, cfg := { cfgT with wbOrder := .revBlock } })
      (fun t => (t.raw.toList.drop 7).take 8) [0xe8, 0xe3, 0x7e, 0xa0, 0x34, 0x12, 0xcd, 0xab] = true ∧
    gives (exec (.xteaWb 7) { blank with v0 := 0x3412CDAB, v1 := 0xE8E37EA0, cfg := { cfgT with wbOrder := .natural } })
      (fun t => (t.raw.toList.drop 7).take 8) [0xab, 0xcd, 0x12, 0x34, 0xa0, 0x7e, 0xe3, 0xe8] = true := by
  decide +kernel

/-- R202. -/
theorem test_cipherBlock :
    gives (exec (.cipherBlock 7 .a) { blank with raw := r1 }) (fun t => (t.raw.toList.drop 7).take 8)
      [0x34, 0x12, 0xcd, 0xab, 0xe8, 0xe3, 0x7e, 0xa0] = true := by
  decide +kernel

/-- R203: all of R1. -/
theorem test_cipherFrame : gives (exec .cipherFrame { blank with raw := r1 }) (·.raw) r1Plain = true := by
  decide +kernel

/-! ## Frame Field Extractor (V5) -/

/-- R221 on T1, and R222 on the identifier it gives. -/
theorem test_fxId :
    gives (exec .fxId { blank with raw := r1Plain }) (·.record.id) 0xC06EDF = true ∧
    gives (exec .fxIdhex { blank with record := record1 }) (·.text) #v['c', '0', '6', 'e', 'd', 'f'] = true := by
  decide +kernel

/-- Zeros are kept (R222). -/
theorem test_fxIdhex_zeros :
    gives (exec .fxIdhex { blank with record := { record1 with id := 0x00000A } }) (·.text)
      #v['0', '0', '0', '0', '0', 'a'] = true := by
  decide +kernel

/-- R223, R224, R225 on T1. -/
theorem test_fxPosition :
    gives (exec .fxLat { blank with raw := r1Plain }) (·.record.lat) 0x1234 = true ∧
    gives (exec .fxLon { blank with raw := r1Plain }) (·.record.lon) 0xABCD = true ∧
    gives (exec .fxAlt { blank with raw := r1Plain }) (·.record.alt) 1000 = true := by
  decide +kernel

/-- V5.2: one byte feeds both fields. -/
theorem test_fxAlt_and_fxVs_share_a_byte :
    gives (exec .fxAlt { blank with raw := speedFrame 0xff 0x00 0x00 }) (·.record.alt) 7936 = true ∧
    gives (exec .fxVs { blank with raw := speedFrame 0xff 0x00 0x00 }) (·.record.vs.toInt) 7 = true := by
  decide +kernel

/-- V5.2: the corners of the vertical speed (S1 among them). -/
theorem test_fxVs :
    ([(0x20, 0x00, 0xc0, 8), (0xe0, 0x7e, 0xc0, 4088), (0xe0, 0x7f, 0xff, 4088), (0x00, 0x80, 0xc0, -512),
      (0xe0, 0xfe, 0xc0, -1), (0xa0, 0x02, 0x40, 26)] : List (Byte × Byte × Byte × Int)).all (fun p =>
      gives (exec .fxVs { blank with raw := speedFrame p.1 p.2.1 p.2.2.1 }) (·.record.vs.toInt) p.2.2.2) = true := by
  decide +kernel

/-- V5.3. -/
theorem test_fxStealth_and_fxType :
    ([(0x80, true, 0), (0x04, false, 1), (0x43, false, 0), (0x7f, false, 15), (0xa0, true, 8)] :
      List (Byte × Bool × BitVec 4)).all (fun p =>
      gives (exec .fxStealth { blank with raw := blank.raw.set 14 p.1 }) (·.record.stealth) p.2.1 &&
      gives (exec .fxType { blank with raw := blank.raw.set 14 p.1 }) (·.record.type) p.2.2) = true := by
  decide +kernel

/-- R229, R230 on T1. -/
theorem test_fxVelocities :
    gives (exec .fxNs { blank with raw := r1Plain }) (fun t => t.record.ns.toList.map BitVec.toInt)
      [1, -1, 127, -128] = true ∧
    gives (exec .fxEw { blank with raw := r1Plain }) (fun t => t.record.ew.toList.map BitVec.toInt)
      [0, 2, -2, 100] = true := by
  decide +kernel

/-- V5.1, the row T1. -/
theorem test_fxFrame : gives (exec .fxFrame { blank with raw := r1Plain }) (·.record) record1 = true := by
  decide +kernel

/-! ## The pipeline (V6, P4) -/

/-- W1 gives the record of frame 1. -/
theorem test_frameProcess :
    gives (exec .frameProcess { blank with win := windowBitsOf hexW1 }) (fun t => (t.frames, t.raw, t.failure))
      ([record1], r1Plain, none) = true := by
  decide +kernel

/-- V2.9: a checksum mismatch; nothing is decrypted or emitted. -/
theorem test_frameProcess_mismatch :
    gives (exec .frameProcess { blank with win := windowBitsOf (hexW2 ^^^ (3 * 2 ^ 162)) })
      (fun t => (t.frames, t.raw, t.crc, t.failure)) ([], r2.set 18 0xb2, 0xC667, some .checksumMismatch) = true := by
  decide +kernel

/-- P4c: the call on the 464 samples of W1, as the host presents them. -/
theorem test_decodeCall :
    gives (step { blank with inbox := [samples 464 hexW1] }) (fun t => (t.frames, t.consumed, t.stage))
      ([record1], 1, .idle) = true := by
  decide +kernel

/-- P4b: one sample short; and a count the buffer does not hold (U13). -/
theorem test_decodeCall_starved :
    gives (exec (.decodeCall 463) (given (samples 463 (hexW1 / 2)))) (fun t => (t.frames, t.consumed, t.failure))
      ([], 0, some .insufficientData) = true ∧
    refuses (exec (.decodeCall 464) (given (samples 463 (hexW1 / 2)))) .countBeyondBuffer = true := by
  decide +kernel

/-! ## The sample space and the reference definitions -/

/-- A buffer with a zero sample is stored without it and read back whole (20_memory R60, log 5). -/
theorem test_memory :
    Memory.load 0 [1, 0, 0xFE] = [(0, 1), (2, 0xFE)] ∧ Memory.wf (Memory.load 0 [1, 0, 0xFE]) = true ∧
    Memory.wf [(1, 1), (1, 2)] = false ∧ Memory.wf [(0, 0)] = false ∧
    (List.range 4).map (Memory.read (Memory.load 0 [1, 0, 0xFE])) = [1, 0, 0xFE, 0] := by
  decide +kernel

/-- V2.3 and V3: the line code of a byte, the check value of R1. -/
theorem test_lineCode_and_check :
    lineCode (msbFirst (0xA5 : Byte)) = (samples 16 0x9966).map (fun b => b.getLsbD 0) ∧
    crcDirect (r1.toList.take 27) = 0x0696 := by
  decide +kernel

/-- V6: the frame built from T1 is R1, and its line code is W1. -/
theorem test_buildFrame : buildFrame cfgT t1 = r1 ∧ windowOf r1 = windowBitsOf hexW1 := by
  decide +kernel

/-! ## Witnesses: for every statement with hypotheses, states and operands that meet them -/

/-- What `gives` says, as a statement's hypothesis needs it. -/
theorem next_of_gives {α : Type} [DecidableEq α] {r : Result} {f : State → α} {v : α} (h : gives r f v = true) :
    ∃ t, r = .next t ∧ f t = v := by
  cases r with
  | next t => exact ⟨t, rfl, of_decide_eq_true h⟩
  | fault g => cases h
  | refused g => cases h

/-- Bit 0 of a sample given in the packed form. -/
theorem sampleBit_given (n packed k : Nat) (h : k < n) :
    sampleBit (given (samples n packed)) k = packed.testBit (n - 1 - k) := by
  have hr := read_load (samples n packed) 0 k
  rw [Nat.zero_add] at hr
  have hs : (given (samples n packed)).sample = Memory.load 0 (samples n packed) := rfl
  rw [sampleBit, hs, hr]
  cases hb : packed.testBit (n - 1 - k) <;> simp [samples, h, hb]

theorem witness_StepRunsTheRowsProgram :
    (decodeTableWord 8 0x32 = some (.crcByte 0) ∧ programFor blank.cfg (.crcByte 0) = some (frameProgram blank.cfg)) ∧
    decodeTableWord 8 0x00 = some (.decodeCall 0) ∧
    (∀ i, decodeTableWord 8 0x47 = some i → programFor blank.cfg i = none) :=
  ⟨⟨rfl, rfl⟩, rfl, fun i h => by
    have : Instr.xteaEnc .a 0 = i := Option.some.inj h
    rw [← this]; rfl⟩

theorem witness_StepDecodesTheNextBuffer :
    ({ blank with inbox := [[1, 0], [1]] } : State).inbox = [1, 0] :: [[1]] :=
  rfl

/-- A waiting state, which is idle, and an idle state with a buffer to decode. -/
theorem witness_IdleStepWaits :
    blank.inbox = [] ∧ blank.stage = .idle ∧ ({ blank with inbox := [[1]] } : State).stage = .idle ∧
    ∃ t, step { blank with inbox := [[1]] } = .next t :=
  ⟨rfl, rfl, rfl, _, rfl⟩

theorem witness_DecodeInvertsEncode : (Instr.cipherBlock 21 .b).wellFormed = true := rfl

theorem witness_DecodedWordsAreCanonical : decode (.op 0x44 [21, 1]) = .ok (.cipherBlock 21 .b) := rfl

theorem witness_OtherNumbersAreRejected :
    (0x02 : BitVec 8).toNat ∉ [0x00, 0x01, 0x10, 0x11, 0x12, 0x13, 0x20, 0x21, 0x22, 0x23, 0x24, 0x30, 0x31, 0x32, 0x33,
      0x34, 0x40, 0x41, 0x42, 0x43, 0x44, 0x45, 0x46, 0x47,
      0x50, 0x51, 0x52, 0x53, 0x54, 0x55, 0x56, 0x57, 0x58, 0x59, 0x5A] := by
  decide

/-- A state with a buffer to decode meets the invariant and steps on. -/
theorem witness_StepKeepsInvariant :
    Inv { blank with inbox := [samples 464 hexW1] } ∧ ∃ t, step { blank with inbox := [samples 464 hexW1] } = .next t :=
  ⟨⟨rfl, fun _ h => absurd h List.not_mem_nil, Nat.le_refl _, Nat.le_refl _, Nat.le_refl _,
    fun _ h => absurd h List.not_mem_nil⟩, (next_of_gives test_decodeCall).imp fun _ h => h.1⟩

theorem witness_NoOperationWritesConstantsOrSamples : ∃ t, exec .crcInit blank = .next t := ⟨_, rfl⟩

/-- A scan and a call that move the cursor, and the call the count too. -/
theorem witness_OnlyScanAndCallMoveTheCursor :
    (∃ t, exec .syncScan (given (samples 500 (hexSync48 * 2 ^ 416))) = .next t ∧ t.cur ≠ 0) ∧
    (∃ t, exec (.decodeCall 463) (present (samples 463 0) [] { blank with cur := 1 }) = .next t ∧ t.cur ≠ 1 ∧
      t.navail ≠ blank.navail) := by
  constructor
  · obtain ⟨t, h, hf⟩ := next_of_gives test_syncScan
    refine ⟨t, h, ?_⟩
    rw [(Prod.mk.inj (Prod.mk.inj hf).2).2]
    decide
  · have h : gives (exec (.decodeCall 463) (present (samples 463 0) [] { blank with cur := 1 }))
        (fun t => (t.cur, t.navail)) (0, 463) = true := by decide +kernel
    obtain ⟨t, h, hf⟩ := next_of_gives h
    refine ⟨t, h, ?_, ?_⟩
    · rw [(Prod.mk.inj hf).1]; decide
    · rw [(Prod.mk.inj hf).2]; decide

/-- Each of the two flags and the list changes somewhere. -/
theorem witness_OnlyNamedOperationsWriteFlagsAndFrames :
    (∃ t, exec .lcValidate { blank with win := windowBitsOf (hexW1 ||| 3) } = .next t ∧ t.lcerr ≠ blank.lcerr) ∧
    (∃ t, exec .crcCheck { blank with raw := r1 } = .next t ∧ t.crcok ≠ blank.crcok) ∧
    (∃ t, exec .frameProcess { blank with win := windowBitsOf hexW1 } = .next t ∧ t.frames ≠ blank.frames) := by
  refine ⟨?_, ?_, ?_⟩
  · obtain ⟨t, h, hf⟩ := next_of_gives test_lcValidate.2
    exact ⟨t, h, by rw [hf]; decide⟩
  · obtain ⟨t, h, hf⟩ := next_of_gives test_crcCheck
    exact ⟨t, h, by rw [(Prod.mk.inj hf).2]; decide⟩
  · obtain ⟨t, h, hf⟩ := next_of_gives test_frameProcess
    exact ⟨t, h, by rw [(Prod.mk.inj hf).1]; exact List.cons_ne_nil _ _⟩

/-- Where the stops begin: the last operand that completes and the first that stops. -/
theorem witness_OnlyTheseOperationsStop :
    (∃ t, exec (.syncMatch 452) { blank with navail := 500 } = .next t) ∧
    exec (.syncMatch 453) { blank with navail := 500 } = .fault .sampleBeyondCount ∧
    (∃ t, exec (.syncWindow 36) { blank with navail := 500 } = .next t) ∧
    exec (.syncWindow 37) { blank with navail := 500 } = .fault .sampleBeyondCount ∧
    (∃ t, exec (.xteaUnpack 21) blank = .next t) ∧ exec (.xteaUnpack 22) blank = .fault .rawBeyondFrame ∧
    (∃ t, exec (.xteaWb 21) blank = .next t) ∧ exec (.xteaWb 22) blank = .fault .rawBeyondFrame ∧
    (∃ t, exec (.cipherBlock 21 .a) blank = .next t) ∧ exec (.cipherBlock 22 .b) blank = .fault .rawBeyondFrame ∧
    (∃ t, exec (.decodeCall 0) blank = .next t) ∧ exec (.decodeCall 1) blank = .refused .countBeyondBuffer :=
  ⟨⟨_, rfl⟩, rfl, ⟨_, rfl⟩, rfl, ⟨_, rfl⟩, rfl, ⟨_, rfl⟩, rfl, ⟨_, rfl⟩, rfl, ⟨_, rfl⟩, rfl⟩

/-- The last offset that may be compared. -/
theorem witness_SyncMatchComparesFortyEightSamples : 0 + 48 ≤ (given (samples 48 hexSync48)).navail := by
  decide +kernel

/-- The last window that fits. -/
theorem witness_SyncWindowCopiesTheWindow : 36 + 464 ≤ (given (samples 500 (hexSync48 * 2 ^ 416))).navail := by
  decide +kernel

theorem witness_MatchedWindowBeginsWithThePattern :
    36 + 464 ≤ (given (samples 500 (hexSync48 * 2 ^ 416))).navail ∧
    PatternAt (given (samples 500 (hexSync48 * 2 ^ 416))) 36 :=
  ⟨by decide +kernel, (matchAt_iff _ _).1 (by decide +kernel)⟩

/-- Both sides of the bound. -/
theorem witness_SyncConsumeKeeps463 :
    ({ blank with navail := 463 } : State).navail < 464 ∧ 464 ≤ ({ blank with navail := 464 } : State).navail := by
  decide +kernel

theorem witness_SymbolsDecode : true = true ∧ true ≠ false := by decide

theorem witness_LcValidateSetsLcerr :
    ∃ v, exec .lcValidate { blank with win := windowBitsOf (hexW1 ||| 3) } = .next v ∧ v.lcerr = true :=
  next_of_gives test_lcValidate.2

/-- A legal window whose frame fails the check (V2.9). -/
theorem witness_CrcCheckValidatesTheFrame :
    Does .lcDecode { blank with win := windowBitsOf (hexW2 ^^^ (3 * 2 ^ 162)) } fun d =>
      d.lcerr = false ∧ Does .crcCheck d fun c => c.crcok = false :=
  ⟨_, rfl, by decide +kernel, _, rfl, by decide +kernel⟩

/-- A window of each kind. -/
theorem witness_LcDecodeIsItsExpansion :
    (∃ v, exec .lcValidate { blank with win := windowBitsOf (hexW1 ||| 3) } = .next v ∧ v.lcerr = true) ∧
    (∃ v, exec .lcValidate { blank with win := windowBitsOf hexW1, lcerr := true } = .next v ∧ v.lcerr = false) :=
  ⟨next_of_gives test_lcValidate.2, next_of_gives test_lcValidate.1⟩

theorem witness_LcDecodeInvertsTheLineCode : ({ blank with win := windowOf r1 } : State).win = windowOf r1 := rfl

/-- An accepted window, which is an image, and a rejected one. -/
theorem witness_LcDecodeAcceptsOnlyImages :
    ((∃ t, exec .lcDecode { blank with win := windowBitsOf hexW1 } = .next t ∧ t.failure = none) ∧
      windowBitsOf hexW1 = windowOf r1) ∧
    (∃ t, exec .lcDecode { blank with win := windowBitsOf (hexW1 ||| 2 ^ 262) } = .next t ∧ t.failure ≠ none) := by
  refine ⟨⟨?_, test_buildFrame.2.symm⟩, ?_⟩
  · obtain ⟨t, h, hf⟩ := next_of_gives test_lcDecode
    exact ⟨t, h, (Prod.mk.inj (Prod.mk.inj hf).2).2⟩
  · obtain ⟨t, h, hf⟩ := next_of_gives test_lcDecode_violation
    exact ⟨t, h, by rw [(Prod.mk.inj (Prod.mk.inj hf).2).2]; exact Option.some_ne_none _⟩

theorem witness_SingleBitErrorsAreDetected : Does .crcCheck { blank with raw := r1 } fun v => v.crcok = true :=
  (next_of_gives test_crcCheck).imp fun _ h => ⟨h.1, (Prod.mk.inj h.2).2⟩

/-- The last region, in both byte orders. -/
theorem witness_XteaUnpackReadsTheRegion :
    21 ≤ 21 ∧ blank.cfg.byteOrder = .le ∧
    ({ blank with cfg := { cfgT with byteOrder := .be } } : State).cfg.byteOrder = .be := by
  decide

theorem witness_XteaDecAndEncAreTheirRounds : 5 < 6 := by decide

/-- The last region, in the three write-back orders. -/
theorem witness_XteaWbWritesTheRegion :
    21 ≤ 21 ∧ blank.cfg.wbOrder = .revWord ∧
    ({ blank with cfg := { cfgT with wbOrder := .revBlock } } : State).cfg.wbOrder = .revBlock ∧
    ({ blank with cfg := { cfgT with wbOrder := .natural } } : State).cfg.wbOrder = .natural := by
  decide

/-- The last region, with the byte before it; and the region before that, with the byte after it, the last of `RAW`. -/
theorem witness_CipherBlockIsItsExpansion :
    (21 ≤ 21 ∧ (20 : Fin 29).val < 21) ∧ (20 ≤ 21 ∧ 20 + 8 ≤ (28 : Fin 29).val) := by
  decide

/-- R1 after the cipher with every bit changed that the extractor does not take. -/
def unextractedChanged : Vector Byte 29 :=
  #v[0x00, 0xff, 0x00, 0xdf, 0x6e, 0xc0, 0xff, 0x34, 0x12, 0xcd, 0xab, 0xe8, 0xe3, 0x7f, 0xe3,
    0x01, 0xff, 0x7f, 0x80, 0x00, 0x02, 0xfe, 0x64, 0xff, 0xff, 0xff, 0xff, 0xff, 0xff]

theorem witness_UnextractedBitsAreIgnored :
    unextractedChanged ≠ r1Plain ∧
    (∀ k : Fin 29, 3 ≤ k.val → k.val ≤ 22 → k.val ≠ 6 → k.val ≠ 13 → k.val ≠ 14 → unextractedChanged[k] = r1Plain[k]) ∧
    (∀ j, 1 ≤ j → j < 8 → unextractedChanged[13].getLsbD j = r1Plain[13].getLsbD j) ∧
    (∀ j, 2 ≤ j → j < 8 → j ≠ 6 → unextractedChanged[14].getLsbD j = r1Plain[14].getLsbD j) ∧
    (∀ j, 6 ≤ j → j < 8 → unextractedChanged[24].getLsbD j = r1Plain[24].getLsbD j) := by
  have h13 : ∀ j : Fin 8, 1 ≤ j.val → unextractedChanged[13].getLsbD j.val = r1Plain[13].getLsbD j.val := by
    decide +kernel
  have h14 : ∀ j : Fin 8, 2 ≤ j.val → j.val ≠ 6 → unextractedChanged[14].getLsbD j.val = r1Plain[14].getLsbD j.val := by
    decide +kernel
  have h24 : ∀ j : Fin 8, 6 ≤ j.val → unextractedChanged[24].getLsbD j.val = r1Plain[24].getLsbD j.val := by
    decide +kernel
  exact ⟨by decide +kernel, by decide +kernel, fun j h1 h2 => h13 ⟨j, h2⟩ h1, fun j h1 h2 h3 => h14 ⟨j, h2⟩ h1 h3,
    fun j h1 h2 => h24 ⟨j, h2⟩ h1⟩

/-- A window for each of the three outcomes. -/
theorem witness_FrameProcessHasThreeOutcomes :
    (Does .lcDecode { blank with win := windowBitsOf (hexW1 ||| 3) } fun d => d.lcerr = true) ∧
    (Does .lcDecode { blank with win := windowBitsOf (hexW2 ^^^ (3 * 2 ^ 162)) } fun d =>
      Does .crcCheck d fun c => d.lcerr = false ∧ c.crcok = false) ∧
    (Does .lcDecode { blank with win := windowBitsOf hexW1 } fun d =>
      Does .crcCheck d fun c => d.lcerr = false ∧ c.crcok = true) :=
  ⟨⟨_, rfl, by decide +kernel⟩, ⟨_, rfl, _, rfl, by decide +kernel⟩, ⟨_, rfl, _, rfl, by decide +kernel⟩⟩

/-- Both sides of the bound, and a count the buffer does not hold. -/
theorem witness_StarvedCallConsumesNothing :
    463 ≤ ({ blank with held := 463 } : State).held ∧ 463 < 464 ∧ ({ blank with held := 463 } : State).held < 464 := by
  decide +kernel

theorem witness_DecodeCallCompletes : 464 ≤ (given (samples 464 hexW1)).held ∧ 464 ≤ 464 := by decide +kernel

/-- V1.8: the pattern is there, one offset too late. -/
theorem witness_NoMatchIsNotAFailure :
    500 ≤ (given (samples 500 (hexSync48 * 2 ^ 415))).held ∧ 464 ≤ 500 ∧
    ∀ i, i + 464 ≤ 500 → ¬ PatternAt (given (samples 500 (hexSync48 * 2 ^ 415))) i := by
  have h : ∀ i : Fin 37, matchAt (given (samples 500 (hexSync48 * 2 ^ 415))) i.val = false := by decide +kernel
  exact ⟨by decide +kernel, by decide, fun i hi => (matchAt_eq_false_iff _ _).1 (h ⟨i, by omega⟩)⟩

theorem witness_DecodeLoopHasEnoughRounds : 464 / 464 + 1 ≤ 2 := by decide

theorem witness_CallIsTheStageOrder : 464 ≤ (given (samples 464 hexW1)).held ∧ 464 ≤ 464 := by decide +kernel

theorem witness_StageOrderIsFixed (g : Stage) : ({ blank with stage := g } : State).stage = g := rfl

/-- Two states that agree in the constants and in bit 0 of the samples below the count, and in little else. -/
theorem witness_CallDependsOnlyOnSampleBits :
    464 ≤ ({ blank with held := 464, sample := [(0, 1)] } : State).held ∧
    464 ≤ ({ blank with held := 500, sample := [(0, 0x5B), (463, 0xA4), (464, 1)], crc := 1, cur := 7 } : State).held ∧
    ({ blank with held := 464, sample := [(0, 1)] } : State).cfg =
      ({ blank with held := 500, sample := [(0, 0x5B), (463, 0xA4), (464, 1)], crc := 1, cur := 7 } : State).cfg ∧
    ∀ a, a < 464 → sampleBit { blank with held := 464, sample := [(0, 1)] } a =
      sampleBit { blank with held := 500, sample := [(0, 0x5B), (463, 0xA4), (464, 1)], crc := 1, cur := 7 } a := by
  have h : ∀ a : Fin 464, sampleBit { blank with held := 464, sample := [(0, 1)] } a.val =
      sampleBit { blank with held := 500, sample := [(0, 0x5B), (463, 0xA4), (464, 1)], crc := 1, cur := 7 } a.val := by
    decide +kernel
  exact ⟨by decide, by decide, rfl, fun a ha => h ⟨a, ha⟩⟩

/-- The samples of frame 1 as the state of a call. -/
theorem witness_BuiltFrameIsDecoded :
    (given (samples 464 hexW1)).cfg.byteOrder = .le ∧ (given (samples 464 hexW1)).cfg.wbOrder = .revWord ∧
    3 ≤ (given (samples 464 hexW1)).cfg.cipherOffA.val ∧ (given (samples 464 hexW1)).cfg.cipherOffA.val ≤ 11 ∧
    464 ≤ (given (samples 464 hexW1)).held ∧
    ∀ k : Fin 464, sampleBit (given (samples 464 hexW1)) k.val =
      (windowOf (buildFrame (given (samples 464 hexW1)).cfg t1))[k] := by
  refine ⟨rfl, rfl, by decide, by decide, by decide +kernel, fun k => ?_⟩
  have hc : (given (samples 464 hexW1)).cfg = cfgT := rfl
  rw [hc, test_buildFrame.1, test_buildFrame.2, sampleBit_given 464 hexW1 k.val k.isLt]
  exact (BitVec.getElem_ofFnLE (fun k : Fin 464 => hexW1.testBit (463 - k.val)) k.val k.isLt).symm

end Sys2Proof.Tests
end

/-! ## The step and the programs of the rows -/

namespace Sys2Proof.Machine

/-! ### The step -/

/-- What a decode call can do: refuse a count the buffer does not hold, end starved, or run (R252, R273, U13). -/
theorem exec_decodeCall_cases (n : Nat) (s : State) :
    (s.held < n ∧ exec (.decodeCall n) s = .refused .countBeyondBuffer) ∨
    (n ≤ s.held ∧ n < windowBits ∧ exec (.decodeCall n) s = .next (starvedCall n s)) ∨
    (n ≤ s.held ∧ windowBits ≤ n ∧ exec (.decodeCall n) s = .next (runCall n s)) := by
  have harm : exec (.decodeCall n) s = execDecodeCall n s := rfl
  rw [harm]
  unfold execDecodeCall
  by_cases hheld : n ≤ s.held
  · by_cases hn : n < windowBits
    · exact .inr (.inl ⟨hheld, hn, by rw [if_pos hheld, if_pos hn]⟩)
    · exact .inr (.inr ⟨hheld, by omega, by rw [if_pos hheld, if_neg hn]⟩)
  · exact .inl ⟨by omega, if_neg hheld⟩

/-- A call leaves the block idle, starved or not (R252). -/
theorem stage_of_exec_decodeCall {n : Nat} {s t : State} (h : exec (.decodeCall n) s = .next t) :
    t.stage = .idle := by
  obtain ⟨-, hr⟩ | ⟨-, -, hs⟩ | ⟨-, -, hs⟩ := exec_decodeCall_cases n s
  · rw [hr] at h; cases h
  · rw [← Host.Outcome.next.inj (hs.symm.trans h)]; simp [starvedCall]
  · rw [← Host.Outcome.next.inj (hs.symm.trans h)]; simp [runCall]

/-- Settles O3: the two cases of a step, and the stage a call ends in. -/
theorem idleStepWaits : Obligations.IdleStepWaits := by
  refine ⟨fun s => step_of_nil, fun s => ?_, fun s t hidle hstep => ?_⟩
  · obtain hcall | ⟨-, hwait⟩ := step_cases s
    · exact .inr hcall
    · exact .inl hwait
  · obtain ⟨buf, rest, -, hcall⟩ | ⟨-, hwait⟩ := step_cases s
    · exact stage_of_exec_decodeCall (hcall.symm.trans hstep)
    · rw [hwait] at hstep; cases hstep; exact hidle

/-! ### The presented buffer of a window -/

/-- A presented buffer of one window holds bit `k` of the window as bit 0 of sample `k`. -/
theorem sampleBit_samplesOf {s : State} {win : BitVec 464} (hs : s.sample = Memory.load 0 (samplesOf win))
    {k : Nat} (hk : k < 464) : sampleBit s k = win[k] := by
  have hread := read_load (samplesOf win) 0 k
  rw [Nat.zero_add] at hread
  rw [sampleBit, hs, hread]
  cases hb : win[k] <;> simp [samplesOf, hk, hb]

@[simp] theorem length_samplesOf (win : BitVec 464) : (samplesOf win).length = 464 := by simp [samplesOf]

/-- The window copied from offset 0 of that buffer is the window. -/
theorem windowAt_samplesOf {s : State} {win : BitVec 464} (hs : s.sample = Memory.load 0 (samplesOf win)) :
    windowAt s 0 = win := by
  ext k hk
  rw [windowAt_getElem s 0 k hk, Nat.zero_add, sampleBit_samplesOf hs hk]

/-- The window begins with the line code of `SYNC24`, most significant bit first (R94). -/
def BeginsWithPattern (c : Config) (win : BitVec 464) : Prop :=
  ∀ q : Fin 24,
    win[2 * q.val] = c.sync24.getLsbD (23 - q.val) ∧ win[2 * q.val + 1] = !c.sync24.getLsbD (23 - q.val)

/-- A window that begins with the pattern is a match at offset 0 of its buffer. -/
theorem matchAt_samplesOf {s : State} {win : BitVec 464} (hs : s.sample = Memory.load 0 (samplesOf win))
    (hp : BeginsWithPattern s.cfg win) : matchAt s 0 = true := by
  refine (matchAt_iff s 0).2 fun q => ?_
  obtain ⟨heven, hodd⟩ := hp q
  rw [← sampleBit_samplesOf hs (by omega), sampleBit] at heven hodd
  simpa only [Nat.zero_add] using And.intro heven hodd

/-! ### A call on one window -/

/-- FRAME.PROCESS moves neither the count of samples nor the cursor. -/
theorem frameProcess_navail_cur (s : State) :
    (frameProcess s).navail = s.navail ∧ (frameProcess s).cur = s.cur := by
  obtain h | ⟨h, hr⟩ | ⟨h, hr⟩ := frameProcess_cases s
  · rw [frameProcess_of_violation h]; exact ⟨rfl, rfl⟩
  · rw [frameProcess_of_mismatch h hr]; exact ⟨rfl, rfl⟩
  · rw [frameProcess_of_valid h hr]; exact ⟨rfl, rfl⟩

/-- A scan with no offset left to test finds nothing. -/
theorem syncScan_of_no_candidates {s : State} (h : candidates s = 0) : syncScan s = { s with found := false } := by
  obtain ⟨i, hi, -⟩ | ⟨-, hs⟩ := syncScan_cases s
  · rw [h] at hi; cases hi
  · exact hs

/-- A scan that has only the offset 0 to test, and matches there. -/
theorem syncScan_of_match_at_zero {s : State} (hc : candidates s = 1) (h0 : s.cur = 0) (hm : matchAt s 0 = true) :
    syncScan s = { s with found := true, foundAt := 0, cur := windowBits } := by
  have hf : findMatch s (candidates s) s.cur = some 0 := by
    rw [hc, h0]; exact if_pos hm
  simp [syncScan, hf]

/-- The state in which the first match of a call, at offset 0, has its window copied. -/
def atFirstWindow (s : State) : State :=
  syncWindow 0
    { setStage .scan (enterCall windowBits s) with found := true, foundAt := 0, cur := windowBits }

@[simp] theorem atFirstWindow_navail (s : State) : (atFirstWindow s).navail = windowBits := rfl
@[simp] theorem atFirstWindow_cur (s : State) : (atFirstWindow s).cur = windowBits := rfl

/-- A call on 464 samples that match at offset 0 is FRAME.PROCESS on their window, and a scan that finds nothing. -/
theorem runCall_of_match_at_zero {s : State} (hm : matchAt (setStage .scan (enterCall windowBits s)) 0 = true) :
    runCall windowBits s =
      noFailure (setStage .idle (syncConsume
        { setStage .scan (frameProcess (atFirstWindow s)) with found := false })) := by
  have hfirst : syncScan (setStage .scan (enterCall windowBits s)) =
      { setStage .scan (enterCall windowBits s) with found := true, foundAt := 0, cur := windowBits } :=
    syncScan_of_match_at_zero (by simp [candidates, windowBits, retain]) rfl hm
  have hsecond : candidates (setStage .scan (frameProcess (atFirstWindow s))) = 0 := by
    obtain ⟨hn, hc⟩ := frameProcess_navail_cur (atFirstWindow s)
    simp [candidates, hn, hc]
  have hrounds : windowBits / windowBits + 1 = 2 := rfl
  have hlast := syncScan_of_no_candidates hsecond
  have hfound : (syncScan (setStage .scan (enterCall windowBits s))).found = true := by rw [hfirst]
  have hwindow : syncWindow (syncScan (setStage .scan (enterCall windowBits s))).foundAt
      (syncScan (setStage .scan (enterCall windowBits s))) = atFirstWindow s := by
    rw [hfirst, atFirstWindow]
  have hend : ¬(syncScan (setStage .scan (frameProcess (atFirstWindow s)))).found = true := by
    rw [hlast]; exact Bool.false_ne_true
  rw [runCall, hrounds, decodeLoop_succ, if_pos hfound, hwindow, decodeLoop_succ, if_neg hend, hlast]

/-- The state in which the step on the buffer of one window processes it. -/
def windowState (win : BitVec 464) (s : State) : State := atFirstWindow (present (samplesOf win) s.inbox s)

/-- A step on the buffer of one window that begins with the pattern is FRAME.PROCESS on that window. -/
theorem step_samplesOf {s : State} {win : BitVec 464} (hp : BeginsWithPattern s.cfg win) :
    step { s with inbox := samplesOf win :: s.inbox } =
      .next (noFailure (setStage .idle (syncConsume
        { setStage .scan (frameProcess (windowState win s)) with found := false }))) := by
  have hstep : step { s with inbox := samplesOf win :: s.inbox } =
      exec (.decodeCall (samplesOf win).length) (present (samplesOf win) s.inbox s) := step_of_cons rfl
  have hm : matchAt (setStage .scan (enterCall windowBits (present (samplesOf win) s.inbox s))) 0 = true :=
    matchAt_samplesOf rfl hp
  rw [hstep, length_samplesOf]
  obtain ⟨hheld, -⟩ | ⟨-, hn, -⟩ | ⟨-, -, hrun⟩ := exec_decodeCall_cases 464 (present (samplesOf win) s.inbox s)
  · simp at hheld
  · exact absurd hn (by decide)
  · rw [hrun, windowState, ← runCall_of_match_at_zero hm]

/-- The window of that state. -/
@[simp] theorem windowState_win (win : BitVec 464) (s : State) : (windowState win s).win = win :=
  windowAt_samplesOf rfl

@[simp] theorem windowState_frames (win : BitVec 464) (s : State) : (windowState win s).frames = [] := rfl
@[simp] theorem windowState_foundAt (win : BitVec 464) (s : State) : (windowState win s).foundAt = 0 := rfl

/-- A step on a valid frame emits its record (R250, R252). -/
theorem step_samplesOf_valid {s : State} {win : BitVec 464} (hp : BeginsWithPattern s.cfg win)
    (hl : lineCodeError win = false) (hr : residue (frameOf win) = 0) :
    ∃ t, step { s with inbox := samplesOf win :: s.inbox } = .next t ∧
      t.frames = [t.record] ∧ t.found = false ∧ t.foundAt = 0 ∧ t.lcerr = false ∧ t.crcok = true := by
  rw [step_samplesOf hp, frameProcess_of_valid (by simpa using hl) (by simpa using hr)]
  exact ⟨_, rfl, by simp⟩

/-- A step on a window with an illegal symbol stops at the line code (R250, R252). -/
theorem step_samplesOf_violation {s : State} {win : BitVec 464} (hp : BeginsWithPattern s.cfg win)
    (hl : lineCodeError win = true) :
    ∃ t, step { s with inbox := samplesOf win :: s.inbox } = .next t ∧
      t.frames = [] ∧ t.foundAt = 0 ∧ t.lcerr = true ∧ t.win = win := by
  rw [step_samplesOf hp, frameProcess_of_violation (by simpa using hl)]
  exact ⟨_, rfl, by simp⟩

/-! ### The checksum -/

/-- Bit `i` of the register with a bit shifted in at bit 0. -/
theorem shiftIn_getLsbD (a : Half) (d : Bool) (i : Nat) (hi : i < 16) :
    (a.extractLsb' 0 15 ++ BitVec.ofBool d : Half).getLsbD i = if i = 0 then d else a.getLsbD (i - 1) := by
  rw [BitVec.getLsbD_append]
  cases i with
  | zero => simp
  | succ i => simp [show i < 15 by omega]

/-- Bit `i` of the register after a step (R172). -/
theorem crcStep_getLsbD (a : Half) (d : Bool) (i : Nat) (hi : i < 16) :
    (crcStep a d).getLsbD i =
      ((if i = 0 then d else a.getLsbD (i - 1)) ^^ (a.getLsbD 15 && crcPoly.getLsbD i)) := by
  rw [crcStep, ← shiftIn_getLsbD a d i hi]
  cases a.getLsbD 15 <;> simp

/-- A step of the register is linear over XOR. -/
theorem crcStep_xor (a b : Half) (d e : Bool) :
    crcStep (a ^^^ b) (d ^^ e) = crcStep a d ^^^ crcStep b e := by
  ext i hi
  simp only [← BitVec.getLsbD_eq_getElem, BitVec.getLsbD_xor, crcStep_getLsbD _ _ i hi, Bool.and_xor_distrib_right]
  by_cases h0 : i = 0
  · simp only [if_pos h0, Bool.xor_assoc, Bool.xor_left_comm]
  · simp only [if_neg h0, Bool.xor_assoc, Bool.xor_left_comm]

/-- While the register holds only the top bits of `c`, a step shifts in the next one. -/
theorem crcStep_shift (c : Half) (j : Nat) (hj : j < 16) :
    crcStep (c >>> (j + 1)) (c.getLsbD j) = c >>> j := by
  ext i hi
  rw [← BitVec.getLsbD_eq_getElem, crcStep_getLsbD _ _ i hi]
  have htop : (c >>> (j + 1)).getLsbD 15 = false := by simp
  rw [htop]
  cases i with
  | zero => simp [hj]
  | succ i => simp; congr 1; omega

/-- CRC.BYTE on byte `o / 8` of `c`, from a register that holds the bits of `c` above it. -/
theorem crcByteStep_shift (c : Half) (o : Nat) (ho : o ≤ 8) :
    crcByteStep (c >>> (o + 8)) (c.extractLsb' o 8) = c >>> o := by
  have h (j : Nat) (hj : j < 8) : crcStep (c >>> (o + j + 1)) ((c.extractLsb' o 8).getLsbD j) = c >>> (o + j) := by
    rw [BitVec.getLsbD_extractLsb', decide_eq_true hj, Bool.true_and, crcStep_shift c (o + j) (by omega)]
  unfold crcByteStep
  simp only [List.foldl_cons, List.foldl_nil]
  rw [h 7 (by decide), h 6 (by decide), h 5 (by decide), h 4 (by decide), h 3 (by decide), h 2 (by decide),
    h 1 (by decide), h 0 (by decide), Nat.add_zero]

/-- A byte's bits are taken most significant first (R174). -/
theorem crcByteStep_eq_foldl (a : Half) (b : Byte) : crcByteStep a b = (msbFirst b).foldl crcStep a := by
  unfold crcByteStep
  rfl

/-- The bits of a byte sequence, taken one by one, are its bytes in turn. -/
theorem foldl_bitsOfBytes (bytes : List Byte) (a : Half) :
    (bitsOfBytes bytes).foldl crcStep a = bytes.foldl crcByteStep a := by
  rw [bitsOfBytes, List.foldl_flatMap]
  exact congrArg (fun f => bytes.foldl f a) (funext₂ fun a b => (crcByteStep_eq_foldl a b).symm)

/-- `k` steps with message bit 0. -/
def crcZeros : Nat → Half → Half
  | 0, a => a
  | k + 1, a => crcZeros k (crcStep a false)

/-- The steps may be counted from either end. -/
theorem crcZeros_crcStep (k : Nat) (a : Half) : crcZeros k (crcStep a false) = crcStep (crcZeros k a) false := by
  induction k generalizing a with
  | zero => rfl
  | succ k ih => exact ih (crcStep a false)

/-- Zero steps are linear over XOR. -/
theorem crcZeros_xor (k : Nat) (a b : Half) : crcZeros k (a ^^^ b) = crcZeros k a ^^^ crcZeros k b := by
  induction k generalizing a b with
  | zero => rfl
  | succ k ih =>
    have hstep := crcStep_xor a b false false
    rw [Bool.xor_false] at hstep
    rw [crcZeros, hstep, ih, crcZeros, crcZeros]

/-- What the register held before the message is shifted through as by zeros. -/
theorem foldl_crcStep_xor (bits : List Bool) (a b : Half) :
    bits.foldl crcStep (a ^^^ b) = crcZeros bits.length a ^^^ bits.foldl crcStep b := by
  induction bits generalizing a b with
  | nil => rfl
  | cons d bits ih =>
    have hstep := crcStep_xor a b false d
    rw [Bool.false_xor] at hstep
    rw [List.foldl_cons, hstep, ih, List.length_cons, crcZeros, List.foldl_cons]

/-- A message from a register `a`, as one from the empty register. -/
theorem foldl_crcStep_eq (bits : List Bool) (a : Half) :
    bits.foldl crcStep a = crcZeros bits.length a ^^^ bits.foldl crcStep 0#16 := by
  rw [← foldl_crcStep_xor, BitVec.xor_zero]

/-- The direct form takes the message bit as if it had entered 16 steps earlier (R181). -/
theorem crcDirectStep_eq (c : Half) (d : Bool) :
    crcDirectStep c d = crcStep c false ^^^ crcZeros 16 (crcStep 0#16 d) := by
  have hshift : (c.extractLsb' 0 15 ++ BitVec.ofBool false : Half) = c <<< 1 := by
    refine BitVec.eq_of_getLsbD_eq fun i hi => ?_
    rw [shiftIn_getLsbD c false i hi, BitVec.getLsbD_shiftLeft]
    cases i <;> simp [hi]
  have hzero : crcZeros 16 (crcStep 0#16 false) = 0#16 := by decide +kernel
  have hone : crcZeros 16 (crcStep 0#16 true) = crcPoly := by decide +kernel
  rw [crcDirectStep, crcStep, hshift]
  cases d
  · rw [hzero, BitVec.xor_zero, Bool.xor_false]
  · rw [hone]
    cases c.getLsbD 15 <;> simp

/-- The direct form of a message is the step form of it with 16 zero bits more, and what the register held before it
shifted through (R181). -/
theorem foldl_crcDirectStep (bits : List Bool) (a z : Half) :
    bits.foldl crcDirectStep (crcZeros 16 a ^^^ z) =
      crcZeros 16 (bits.foldl crcStep a) ^^^ crcZeros bits.length z := by
  induction bits generalizing a z with
  | nil => rfl
  | cons d bits ih =>
    have hstep : crcDirectStep (crcZeros 16 a ^^^ z) d = crcZeros 16 (crcStep a d) ^^^ crcStep z false := by
      have hentry := crcStep_xor a 0#16 false d
      have hzero := crcStep_xor (crcZeros 16 a) z false false
      rw [BitVec.xor_zero, Bool.false_xor] at hentry
      rw [Bool.xor_false] at hzero
      rw [crcDirectStep_eq, hzero, hentry, crcZeros_xor, crcZeros_crcStep]
      ac_rfl
    rw [List.foldl_cons, hstep, ih]
    rfl

/-- The direct form of a message from the initial value (R181). -/
theorem foldl_crcDirectStep_init (bits : List Bool) :
    bits.foldl crcDirectStep crcInitValue =
      crcZeros 16 (bits.foldl crcStep 0#16) ^^^ crcZeros bits.length crcInitValue := by
  have hinit : crcZeros 16 0#16 ^^^ crcInitValue = crcInitValue := by decide +kernel
  rw [← foldl_crcDirectStep, hinit]

/-- The check value, taken bit by bit into the empty register, is the register. -/
theorem foldl_crcStep_checkValue (c : Half) :
    (bitsOfBytes [c.extractLsb' 8 8, c.extractLsb' 0 8]).foldl crcStep 0#16 = c := by
  have hzero : 0#16 = c >>> (8 + 8) := by ext i hi; simp
  rw [foldl_bitsOfBytes, hzero, List.foldl_cons, crcByteStep_shift c 8 (by decide), List.foldl_cons]
  exact crcByteStep_shift c 0 (by decide)

@[simp] theorem length_bitsOfBytes (bytes : List Byte) : (bitsOfBytes bytes).length = 8 * bytes.length := by
  simp [bitsOfBytes, msbFirst, Nat.mul_comm]

/-- The bytes of a sealed frame: the first 27, and the check value of them, most significant byte first (R181). -/
theorem toList_sealFrame (raw : Vector Byte 29) :
    (sealFrame raw).toList = raw.toList.take 27 ++
      [(crcDirect (raw.toList.take 27)).extractLsb' 8 8, (crcDirect (raw.toList.take 27)).extractLsb' 0 8] := by
  refine List.ext_getElem (by simp) fun i hi _ => ?_
  have hi : i < 29 := by simpa using hi
  rw [List.getElem_append]
  simp only [sealFrame, Vector.getElem_toList, Vector.getElem_set]
  obtain h | rfl | rfl : i < 27 ∨ i = 27 ∨ i = 28 := by omega
  · simp [h, show ¬28 = i by omega, show ¬27 = i by omega]
  · simp
  · simp

/-- A sealed frame passes the check, whatever it holds (R178, R181). -/
theorem residue_sealFrame (raw : Vector Byte 29) : residue (sealFrame raw) = 0 := by
  generalize hbits : bitsOfBytes (raw.toList.take 27) = bits
  generalize hcheck : crcDirect (raw.toList.take 27) = check
  have hlen : bits.length = 216 := by simp [← hbits]
  have hdirect : check = crcZeros 16 (bits.foldl crcStep 0#16) ^^^ crcZeros 216 crcInitValue := by
    rw [← hcheck, crcDirect, hbits, foldl_crcDirectStep_init, hlen]
  have hframe : crcOfFrame (sealFrame raw) = crcZeros 16 (bits.foldl crcStep crcInitValue) ^^^ check := by
    unfold crcOfFrame
    rw [← foldl_bitsOfBytes, toList_sealFrame, hcheck, bitsOfBytes, List.flatMap_append, List.foldl_append,
      ← bitsOfBytes, ← bitsOfBytes, hbits, foldl_crcStep_eq, foldl_crcStep_checkValue, length_bitsOfBytes]
    rfl
  have hconstant : crcZeros 16 (crcZeros 216 crcInitValue) ^^^ crcZeros 216 crcInitValue = crcXorOut := by
    decide +kernel
  have hpassed : crcOfFrame (sealFrame raw) = crcXorOut := by
    rw [hframe, hdirect, foldl_crcStep_eq, hlen, crcZeros_xor, BitVec.xor_assoc,
      ← BitVec.xor_assoc (crcZeros 16 (bits.foldl crcStep 0#16)), BitVec.xor_self, BitVec.zero_xor, hconstant]
  unfold residue
  rw [hpassed]
  exact BitVec.xor_self

/-! ### The line code of a frame -/

/-- Samples `2k` and `2k + 1` of the line code are bit `k` and its complement (R93). -/
theorem lineCode_getElem? (bits : List Bool) (k : Nat) :
    (lineCode bits)[2 * k]? = bits[k]? ∧ (lineCode bits)[2 * k + 1]? = bits[k]?.map not := by
  induction bits generalizing k with
  | nil => simp [lineCode]
  | cons b bits ih =>
    cases k with
    | zero => simp [lineCode]
    | succ k =>
      obtain ⟨heven, hodd⟩ := ih k
      rw [show 2 * (k + 1) = 2 * k + 1 + 1 by omega]
      simp [lineCode, heven, hodd]

/-- Bit `j` of byte `m` in order of arrival (R64). -/
theorem bitsOfBytes_getElem? (bytes : List Byte) (m j : Nat) (hj : j < 8) :
    (bitsOfBytes bytes)[8 * m + j]? = bytes[m]?.map fun b => b.getMsbD j := by
  induction bytes generalizing m with
  | nil => simp [bitsOfBytes]
  | cons b bytes ih =>
    have hlen : (msbFirst b).length = 8 := by simp [msbFirst]
    have hsplit : bitsOfBytes (b :: bytes) = msbFirst b ++ bitsOfBytes bytes := List.flatMap_cons
    rw [hsplit]
    cases m with
    | zero =>
      rw [List.getElem?_append_left (by omega)]
      simp [msbFirst, hj]
    | succ m =>
      rw [List.getElem?_append_right (by omega), hlen, show 8 * (m + 1) + j - 8 = 8 * m + j by omega, ih]
      simp

/-- Samples of the window of a frame: payload bit `8m + j`, which is bit `7 - j` of byte `m`, and its complement. -/
theorem windowOf_getElem (raw : Vector Byte 29) (m j : Nat) (hm : m < 29) (hj : j < 8) :
    (windowOf raw)[2 * (8 * m + j)] = raw[m].getMsbD j ∧
    (windowOf raw)[2 * (8 * m + j) + 1] = !raw[m].getMsbD j := by
  obtain ⟨heven, hodd⟩ := lineCode_getElem? (bitsOfBytes raw.toList) (8 * m + j)
  have hbyte : raw.toList[m]? = some raw[m] := by simp [hm]
  rw [bitsOfBytes_getElem? _ m j hj, hbyte] at heven hodd
  unfold windowOf
  rw [BitVec.getElem_ofFnLE, BitVec.getElem_ofFnLE, List.getD_eq_getElem?_getD, List.getD_eq_getElem?_getD,
    heven, hodd]
  exact ⟨rfl, rfl⟩

/-- The window of a frame violates the line code nowhere (R93, R153). -/
theorem lineCodeError_windowOf (raw : Vector Byte 29) : lineCodeError (windowOf raw) = false := by
  rw [← Bool.not_eq_true, lineCodeError_iff]
  rintro ⟨k, hk⟩
  obtain ⟨heven, hodd⟩ := windowOf_getElem raw (k.val / 8) (k.val % 8) (by omega) (by omega)
  simp only [Nat.div_add_mod] at heven hodd
  rw [heven, hodd] at hk
  simp at hk

/-- Bit `7 - j` of a packed byte (R157). -/
theorem packByte_getMsbD (pb : BitVec 232) (m : Fin 29) (j : Nat) (hj : j < 8) :
    (packByte pb m).getMsbD j = pb[8 * m.val + j] := by
  unfold packByte
  repeat rw [BitVec.getMsbD_append]
  interval_cases j <;> simp

/-- LC.COLLAPSE and LC.PACK give the frame back (R155, R157). -/
theorem frameOf_windowOf (raw : Vector Byte 29) : frameOf (windowOf raw) = raw := by
  unfold frameOf packFrame
  ext m hm : 1
  rw [Vector.getElem_ofFn]
  refine BitVec.eq_of_getMsbD_eq fun j hj => ?_
  rw [packByte_getMsbD _ _ j hj, collapse_getElem]
  exact (windowOf_getElem raw m j hm hj).1

/-- The window of a frame whose header is `SYNC24`, most significant byte first, begins with the pattern (R94, R98). -/
theorem windowOf_beginsWithPattern {c : Config} {raw : Vector Byte 29}
    (h : ∀ m : Fin 3, raw[m.val] = c.sync24.extractLsb' (8 * (2 - m.val)) 8) :
    BeginsWithPattern c (windowOf raw) := by
  intro q
  obtain ⟨heven, hodd⟩ := windowOf_getElem raw (q.val / 8) (q.val % 8) (by omega) (by omega)
  have hbit : raw[q.val / 8].getMsbD (q.val % 8) = c.sync24.getLsbD (23 - q.val) := by
    have hplace : 8 * (2 - q.val / 8) + (8 - 1 - q.val % 8) = 23 - q.val := by omega
    have hinside : 8 - 1 - q.val % 8 < 8 := by omega
    rw [h ⟨q.val / 8, by omega⟩, BitVec.getMsbD_eq_getLsbD, BitVec.getLsbD_extractLsb', hplace]
    simp [hinside, Nat.mod_lt]
  simp only [Nat.div_add_mod] at heven hodd
  exact ⟨heven.trans hbit, hodd.trans (congrArg not hbit)⟩

/-- The header of the valid frame is `SYNC24` (R98). -/
theorem validFrame_header (c : Config) (m : Fin 3) :
    (validFrame c)[m.val] = c.sync24.extractLsb' (8 * (2 - m.val)) 8 := by
  have h27 : 27 ≠ m.val := by omega
  have h28 : 28 ≠ m.val := by omega
  simp [validFrame, sealFrame, plainFrame, h27, h28]

/-! ### The two programs -/

/-- The window of `violationProgram`: the pattern, then equal samples. -/
def violationWindow (c : Config) (sample : Bool) : BitVec 464 :=
  BitVec.ofFnLE fun k : Fin 464 => if h : k.val < 48 then sync48 c ⟨k.val, h⟩ else sample

theorem violationProgram_eq (c : Config) (sample : Bool) :
    violationProgram c sample = samplesOf (violationWindow c sample) := rfl

theorem violationWindow_beginsWithPattern (c : Config) (sample : Bool) :
    BeginsWithPattern c (violationWindow c sample) := by
  intro q
  have heven : 2 * q.val < 48 := by omega
  have hodd : 2 * q.val + 1 < 48 := by omega
  rw [← sync48_odd, ← sync48_even]
  simp [violationWindow, BitVec.getElem_ofFnLE, heven, hodd]

/-- From sample 48 on the window holds one value. -/
theorem violationWindow_getElem (c : Config) (sample : Bool) (k : Nat) (hk : k < 464) (h48 : 48 ≤ k) :
    (violationWindow c sample)[k] = sample := by
  simp [violationWindow, BitVec.getElem_ofFnLE, Nat.not_lt.2 h48]

theorem lineCodeError_violationWindow (c : Config) (sample : Bool) :
    lineCodeError (violationWindow c sample) = true := by
  refine (lineCodeError_iff _).2 ⟨24, ?_⟩
  exact (violationWindow_getElem c sample 48 (by decide) (by decide)).trans
    (violationWindow_getElem c sample 49 (by decide) (by decide)).symm

/-- The step on the program of one valid frame emits its record. -/
theorem step_frameProgram (s : State) :
    ∃ t, step { s with inbox := frameProgram s.cfg :: s.inbox } = .next t ∧
      t.frames = [t.record] ∧ t.found = false ∧ t.foundAt = 0 ∧ t.lcerr = false ∧ t.crcok = true := by
  refine step_samplesOf_valid (windowOf_beginsWithPattern (validFrame_header s.cfg)) (lineCodeError_windowOf _) ?_
  rw [frameOf_windowOf, validFrame, residue_sealFrame]

/-- The step on the program of an illegal symbol stops at the line code, on that symbol. -/
theorem step_violationProgram (s : State) (b : Bool) :
    ∃ t, step { s with inbox := violationProgram s.cfg b :: s.inbox } = .next t ∧
      t.frames = [] ∧ t.foundAt = 0 ∧ t.lcerr = true ∧ t.win[48] = b ∧ t.win[49] = b := by
  rw [violationProgram_eq]
  obtain ⟨t, hstep, hframes, hat, hlcerr, hwin⟩ :=
    step_samplesOf_violation (violationWindow_beginsWithPattern s.cfg b) (lineCodeError_violationWindow s.cfg b)
  refine ⟨t, hstep, hframes, hat, hlcerr, ?_, ?_⟩ <;> rw [hwin]
  · exact violationWindow_getElem s.cfg b 48 (by decide) (by decide)
  · exact violationWindow_getElem s.cfg b 49 (by decide) (by decide)

/-! ### The program of a row -/

/-- The step after a row's program is placed is the call on that program. -/
theorem step_withFetchWord {s : State} {nbits w : Nat} {i : Instr} {buf : List Byte}
    (hi : decodeTableWord nbits w = some i) (hp : programFor s.cfg i = some buf) :
    step (s.withFetchWord nbits w) = exec (.decodeCall buf.length) (present buf s.inbox s) := by
  rw [withFetchWord_of_program hi hp]
  exact step_of_cons rfl

/-- A word that is no row, and a row whose operation has no program, place nothing. -/
theorem withFetchWord_of_no_program {s : State} {nbits w : Nat}
    (h : ∀ i, decodeTableWord nbits w = some i → programFor s.cfg i = none) : s.withFetchWord nbits w = s := by
  unfold State.withFetchWord
  cases hi : decodeTableWord nbits w with
  | none => rfl
  | some i => simp [h i hi]

/-- Settles O1: the placed program is the next buffer of the step, and the two fixed programs are run through the stages
of a call on one window, the valid frame passing both gates because its line code and its check value are right. -/
theorem stepRunsTheRowsProgram : Obligations.StepRunsTheRowsProgram := by
  refine ⟨fun s nbits w i buf hi hp => step_withFetchWord hi hp, fun s nbits w n hi => ?_,
    fun s nbits w h => withFetchWord_of_no_program h, step_frameProgram, step_violationProgram⟩
  have hcall := step_withFetchWord (s := s) hi rfl
  rwa [List.length_replicate] at hcall

end Sys2Proof.Machine

/-! ## The frame synchronizer -/

namespace Sys2Proof.Machine

/-! ### The window and the consumed count -/

/-- `bit(a)` as the sample space holds it (R60). -/
theorem sampleBit_eq (s : State) (a : Nat) : sampleBit s a = (Memory.read s.sample a).getLsbD 0 := by
  unfold sampleBit
  rfl

/-- SYNC.WINDOW copies any window that ends within the presented samples (R136, R61). -/
theorem exec_syncWindow_of_fits {s : State} {i : Nat} (hfits : i + windowBits ≤ s.navail) :
    exec (.syncWindow i) s = .next (syncWindow i s) :=
  if_pos hfits

/-- Bit `k` of `WIN` after SYNC.WINDOW, in terms of the sample space. -/
theorem syncWindow_win_getElem (s : State) (i : Nat) (k : Fin 464) :
    (syncWindow i s).win[k] = (Memory.read s.sample (i + k.val)).getLsbD 0 :=
  (windowAt_getElem s i k.val k.isLt).trans (sampleBit_eq s (i + k.val))

/-- Settles O17: a window that fits is copied, and the copy writes `WIN` alone, bit by bit from the samples. -/
theorem syncWindowCopiesTheWindow : Obligations.SyncWindowCopiesTheWindow :=
  ⟨rfl, fun s i hfits => ⟨syncWindow i s, exec_syncWindow_of_fits hfits, rfl, syncWindow_win_getElem s i⟩⟩

/-- SYNC.CONSUME completes from every state (R138). -/
theorem exec_syncConsume (s : State) : exec .syncConsume s = .next (syncConsume s) := rfl

/-- Too few samples for a window: none may be discarded. -/
theorem syncConsume_consumed_of_lt {s : State} (h : s.navail < windowBits) : (syncConsume s).consumed = 0 :=
  if_pos h

/-- Otherwise all but the retained tail, which might still begin a window, may be discarded. -/
theorem syncConsume_consumed_add_retain {s : State} (h : windowBits ≤ s.navail) :
    (syncConsume s).consumed + retain = s.navail := by
  have htail : retain ≤ s.navail := Nat.le_trans (by decide) h
  rw [syncConsume_consumed, if_neg (Nat.not_lt.2 h), Nat.sub_add_cancel htail]

/-- Settles O19: the count is read from `NAVAIL` alone, on either side of one window's length. -/
theorem syncConsumeKeeps463 : Obligations.SyncConsumeKeeps463 :=
  ⟨rfl, fun s => ⟨syncConsume s, exec_syncConsume s, rfl, syncConsume_consumed_of_lt, syncConsume_consumed_add_retain⟩⟩

end Sys2Proof.Machine

/-! ## The line-code decoder -/

namespace Sys2Proof.Machine

/-! ### Packing payload bits into bytes -/

/-- LC.PACK completes from every state (R157). -/
theorem exec_lcPack (s : State) : exec .lcPack s = .next (lcPack s) := rfl

/-- Byte `m` of a packed frame holds the eight payload bits from `8m` on (R157). -/
@[simp] theorem packFrame_getElem (pb : BitVec 232) (m : Nat) (hm : m < 29) :
    (packFrame pb)[m] = packByte pb ⟨m, hm⟩ := by
  unfold packFrame
  exact Vector.getElem_ofFn hm

/-- The payload bits run from bit 7 of their byte down to bit 0 (R157). -/
theorem packByte_getLsbD (pb : BitVec 232) (m : Fin 29) (j : Fin 8) :
    (packByte pb m).getLsbD (7 - j.val) = pb[8 * m.val + j.val] := by
  rw [← packByte_getMsbD pb m j.val j.isLt, BitVec.getMsbD_eq_getLsbD, decide_eq_true j.isLt, Bool.true_and]

/-- Settles O23: LC.PACK writes `RAW` alone, and each of its bytes holds its eight payload bits from the top down. -/
theorem lcPackIsMsbFirst : Obligations.LcPackIsMsbFirst := by
  refine ⟨rfl, fun s => ⟨lcPack s, exec_lcPack s, rfl, fun m j => ?_⟩⟩
  rw [lcPack_raw, Fin.getElem_fin, packFrame_getElem]
  exact packByte_getLsbD s.pb m j

end Sys2Proof.Machine

/-! ## The checksum operations -/

namespace Sys2Proof.Machine

/-! ### What each operation answers -/

/-- An operation that completes does what is said of the state it leaves. -/
theorem does_iff_of_exec {i : Instr} {s t : State} {post : State → Prop} (h : exec i s = .next t) :
    Does i s post ↔ post t := by
  constructor
  · rintro ⟨u, hu, hpost⟩
    rwa [← Host.Outcome.next.inj (hu.symm.trans h)]
  · exact fun hpost => ⟨t, h, hpost⟩

/-- CRC.INIT completes from every state (R171). -/
theorem exec_crcInit (s : State) : exec .crcInit s = .next (crcInit s) := rfl

/-- CRC.BIT completes from every state (R172). -/
theorem exec_crcBit (d : Bool) (s : State) : exec (.crcBit d) s = .next (crcBit d s) := rfl

/-- CRC.BYTE completes from every state (R174). -/
theorem exec_crcByte (b : Byte) (s : State) : exec (.crcByte b) s = .next (crcByte b s) := rfl

/-- CRC.FINAL completes from every state (R176). -/
theorem exec_crcFinal (s : State) : exec .crcFinal s = .next (crcFinal s) := rfl

/-- CRC.CHECK completes from every state (R178). -/
theorem exec_crcCheck (s : State) : exec .crcCheck s = .next (crcCheck s) := rfl

/-- A condition after CRC.BIT is one on the state it leaves. -/
theorem does_crcBit_iff (d : Bool) (s : State) (post : State → Prop) :
    Does (.crcBit d) s post ↔ post (crcBit d s) :=
  does_iff_of_exec (exec_crcBit d s)

/-! ### The start and the end of a frame -/

/-- CRC.CHECK starts from the initial value, whatever the register held (R171). -/
theorem crcCheck_with_crc (s : State) (c : Half) : crcCheck { s with crc := c } = crcCheck s := rfl

/-- Settles O27: the two constants of the checksum, and CRC.CHECK from its own initial value. -/
theorem crcInitAndFinal : Obligations.CrcInitAndFinal := by
  refine ⟨rfl, rfl, exec_crcInit, exec_crcFinal, fun s c => ?_⟩
  rw [exec_crcCheck, exec_crcCheck, crcCheck_with_crc]

/-! ### One step in numbers -/

/-- The register with a bit shifted in at bit 0, as a number. -/
theorem shiftIn_toNat (a : Half) (d : Bool) :
    (a.extractLsb' 0 15 ++ BitVec.ofBool d : Half).toNat = (2 * a.toNat + d.toNat) % 0x10000 := by
  have hd : d.toNat < 2 ^ 1 := d.toNat_lt
  rw [BitVec.toNat_append, BitVec.toNat_ofBool, ← Nat.shiftLeft_add_eq_or_of_lt hd, Nat.shiftLeft_eq,
    BitVec.extractLsb'_toNat, Nat.shiftRight_zero]
  omega

/-- Bit 15 of the register is 1 exactly from 0x8000 on. -/
theorem getLsbD_fifteen_iff (a : Half) : a.getLsbD 15 = true ↔ 0x8000 ≤ a.toNat := by
  rw [← BitVec.msb_eq_getLsbD_last a, BitVec.msb_eq_decide, decide_eq_true_iff]

/-- A step of the register as a number (R172). -/
theorem crcStep_toNat (a : Half) (d : Bool) :
    (crcStep a d).toNat = ((2 * a.toNat + d.toNat) % 0x10000) ^^^ (if 0x8000 ≤ a.toNat then 0x1021 else 0) := by
  rw [crcStep]
  by_cases htop : 0x8000 ≤ a.toNat
  · rw [if_pos ((getLsbD_fifteen_iff a).2 htop), if_pos htop, BitVec.toNat_xor, shiftIn_toNat]
    rfl
  · rw [if_neg (mt (getLsbD_fifteen_iff a).1 htop), if_neg htop, shiftIn_toNat, Nat.xor_zero]

/-- Settles O28: CRC.BIT writes the register alone, with the step in numbers. -/
theorem crcBitShiftsTheMessageIn : Obligations.CrcBitShiftsTheMessageIn :=
  ⟨rfl, fun s d => (does_crcBit_iff d s _).2 ⟨rfl, crcStep_toNat s.crc d⟩⟩

/-! ### One byte as eight bits -/

/-- CRC.BIT over a message writes the register alone. -/
theorem foldl_crcBit (bits : List Bool) (s : State) :
    bits.foldl (fun u d => crcBit d u) s = { s with crc := bits.foldl crcStep s.crc } := by
  induction bits generalizing s with
  | nil => rfl
  | cons d bits ih => exact ih (crcBit d s)

/-- The bits of a byte run from bit 7 down to bit 0 (R93). -/
theorem msbFirst_byte (b : Byte) :
    msbFirst b = [b.getLsbD 7, b.getLsbD 6, b.getLsbD 5, b.getLsbD 4, b.getLsbD 3, b.getLsbD 2, b.getLsbD 1,
      b.getLsbD 0] := rfl

/-- CRC.BYTE is CRC.BIT over the bits of its byte, bit 7 first (R174). -/
theorem crcByte_eq_foldl (b : Byte) (s : State) :
    crcByte b s = (msbFirst b).foldl (fun u d => crcBit d u) s := by
  rw [foldl_crcBit, crcByte, crcByteStep_eq_foldl]

/-- Settles O29: CRC.BYTE writes the register alone, and ends where the eight CRC.BIT end. -/
theorem crcByteIsEightBits : Obligations.CrcByteIsEightBits := by
  refine ⟨rfl, fun s b => (does_iff_of_exec (exec_crcByte b s)).2 ⟨rfl, ?_⟩⟩
  simp only [does_crcBit_iff]
  rw [crcByte_eq_foldl, msbFirst_byte]
  rfl

end Sys2Proof.Machine

/-! ## The block cipher -/

namespace Sys2Proof.Machine

/-! ### What each operation answers -/

/-- An operation on a region that lies in the frame buffer completes (R194). -/
theorem onRegion_of_le {o : Nat} (ho : o ≤ 21) (f : Fin 22 → State → State) (s : State) :
    onRegion o f s = .next (f ⟨o, Nat.lt_succ_of_le ho⟩ s) :=
  dif_pos ho

/-- XTEA.UNPACK completes on every region of the frame buffer (R194). -/
theorem exec_xteaUnpack {o : Nat} (ho : o ≤ 21) (s : State) :
    exec (.xteaUnpack o) s = .next (xteaUnpack ⟨o, Nat.lt_succ_of_le ho⟩ s) :=
  onRegion_of_le ho xteaUnpack s

/-- XTEA.WB completes on every region of the frame buffer (R200). -/
theorem exec_xteaWb {o : Nat} (ho : o ≤ 21) (s : State) :
    exec (.xteaWb o) s = .next (xteaWb ⟨o, Nat.lt_succ_of_le ho⟩ s) :=
  onRegion_of_le ho xteaWb s

/-- CIPHER.BLOCK completes on every region of the frame buffer (R202). -/
theorem exec_cipherBlock {o : Nat} (ho : o ≤ 21) (key : KeySel) (s : State) :
    exec (.cipherBlock o key) s = .next (cipherBlock ⟨o, Nat.lt_succ_of_le ho⟩ key s) :=
  onRegion_of_le ho (fun p => cipherBlock p key) s

/-- XTEA.DROUND completes from every state (R196). -/
theorem exec_xteaDround (key : KeySel) (s : State) : exec (.xteaDround key) s = .next (xteaDround key s) := rfl

/-- XTEA.EROUND completes from every state (R204). -/
theorem exec_xteaEround (key : KeySel) (s : State) : exec (.xteaEround key) s = .next (xteaEround key s) := rfl

/-- XTEA.DEC completes from every state (R198). -/
theorem exec_xteaDec (key : KeySel) (rounds : Nat) (s : State) :
    exec (.xteaDec key rounds) s = .next (xteaDec key rounds s) := rfl

/-- XTEA.ENC completes from every state (R206). -/
theorem exec_xteaEnc (key : KeySel) (rounds : Nat) (s : State) :
    exec (.xteaEnc key rounds) s = .next (xteaEnc key rounds s) := rfl

/-! ### Words from bytes -/

/-- The lowest byte of a concatenation. -/
theorem extractLsb'_append_byte {w : Nat} (hi : BitVec w) (lo : Byte) : (hi ++ lo).extractLsb' 0 8 = lo := by
  rw [BitVec.extractLsb'_append_eq_of_add_le (Nat.le_refl 8), BitVec.extractLsb'_eq_self]

/-- The bytes of a concatenation above the lowest. -/
theorem extractLsb'_append_byte_succ {w : Nat} (hi : BitVec w) (lo : Byte) (j : Nat) :
    (hi ++ lo).extractLsb' (8 * (j + 1)) 8 = hi.extractLsb' (8 * j) 8 :=
  BitVec.extractLsb'_append_eq_of_le (Nat.le_add_left 8 (8 * j))

/-- Byte `j` of a little-endian word is the byte of index `j` (R65). -/
theorem le32_extractLsb' (b : Fin 4 → Byte) (j : Fin 4) :
    (le32 (b 0) (b 1) (b 2) (b 3)).extractLsb' (8 * j.val) 8 = b j := by
  unfold le32
  match j with
  | 0 => exact extractLsb'_append_byte _ _
  | 1 => exact (extractLsb'_append_byte_succ _ _ 0).trans (extractLsb'_append_byte _ _)
  | 2 =>
    exact (extractLsb'_append_byte_succ _ _ 1).trans
      ((extractLsb'_append_byte_succ _ _ 0).trans (extractLsb'_append_byte _ _))
  | 3 =>
    exact (extractLsb'_append_byte_succ _ _ 2).trans
      ((extractLsb'_append_byte_succ _ _ 1).trans
        ((extractLsb'_append_byte_succ _ _ 0).trans BitVec.extractLsb'_eq_self))

/-- A big-endian word is the little-endian word of the bytes in the other order (R65). -/
theorem be32_eq_le32 (b0 b1 b2 b3 : Byte) : be32 b0 b1 b2 b3 = le32 b3 b2 b1 b0 := rfl

/-- Settles O35: XTEA.UNPACK writes the two words alone; little-endian, byte `j` of a word is the byte of index `j` of
its four, and big-endian is little-endian of the four in the other order. -/
theorem xteaUnpackReadsTheRegion : Obligations.XteaUnpackReadsTheRegion := by
  refine ⟨rfl, fun s o ho => (does_iff_of_exec (exec_xteaUnpack ho s)).2 ⟨rfl, fun hle => ?_, fun hbe => ?_⟩⟩
  · simp only [xteaUnpack, hle, packWord]
    exact ⟨le32_extractLsb' fun j => s.raw[o + j.val], le32_extractLsb' fun j => s.raw[o + 4 + j.val]⟩
  · simp only [xteaUnpack, hbe, packWord, be32_eq_le32]
    exact ⟨le32_extractLsb' fun j => s.raw[o + 3 - j.val], le32_extractLsb' fun j => s.raw[o + 7 - j.val]⟩

/-! ### One round -/

/-- The key word a two-bit index selects, by the index as a number (R196). -/
theorem keyWord_eq_getD (key : Key) (k : BitVec 2) : keyWord key k = key.getD k.toNat 0 := by
  have hk : k.toNat < 4 := k.isLt
  simp [keyWord, Vector.getD, hk]

/-- The key word of the `V1` update: bits 12:11 of the sum (R196). -/
theorem keyWord_highIndex (key : Key) (sum : Word) :
    keyWord key (highIndex sum) = key.getD (sum.toNat / 2 ^ 11 % 4) 0 := by
  rw [keyWord_eq_getD, highIndex, BitVec.extractLsb'_toNat, Nat.shiftRight_eq_div_pow]

/-- The key word of the `V0` update: bits 1:0 of the sum (R196). -/
theorem keyWord_lowIndex (key : Key) (sum : Word) : keyWord key (lowIndex sum) = key.getD (sum.toNat % 4) 0 := by
  rw [keyWord_eq_getD, lowIndex, BitVec.extractLsb'_toNat, Nat.shiftRight_zero]

/-- Settles O36: the three assignments of the round in turn, with the key indices read off the sum. -/
theorem xteaDroundUpdatesV1SumV0 : Obligations.XteaDroundUpdatesV1SumV0 := by
  refine ⟨rfl, fun s key => (does_iff_of_exec (exec_xteaDround key s)).2 ⟨rfl, ?_, rfl, ?_⟩⟩
  · simp only [← keyWord_highIndex]
    rfl
  · simp only [← keyWord_lowIndex]
    rfl

/-- Settles O37: the three assignments of the round in turn, with the key indices read off the sum. -/
theorem xteaEroundUpdatesV0SumV1 : Obligations.XteaEroundUpdatesV0SumV1 := by
  refine ⟨rfl, fun s key => (does_iff_of_exec (exec_xteaEround key s)).2 ⟨rfl, ?_, rfl, ?_⟩⟩
  · simp only [← keyWord_lowIndex]
    rfl
  · simp only [← keyWord_highIndex]
    rfl

/-! ### Repeated rounds -/

/-- A function of the block as an operation on the state: what XTEA.DROUND and XTEA.EROUND have in common. -/
def onBlock (round : Key → Block → Block) (key : KeySel) (s : State) : State :=
  setBlock (round (keyFile s.cfg key) (getBlock s)) s

theorem xteaDround_eq_onBlock (key : KeySel) : xteaDround key = onBlock droundBlock key := rfl

theorem xteaEround_eq_onBlock (key : KeySel) : xteaEround key = onBlock eroundBlock key := rfl

/-- Repeating the operation repeats the function of the block. -/
theorem iterate_onBlock (round : Key → Block → Block) (key : KeySel) (n : Nat) (s : State) :
    (onBlock round key)^[n] s = setBlock (repeatRound (round (keyFile s.cfg key)) n (getBlock s)) s := by
  induction n generalizing s with
  | zero => rfl
  | succ n ih => rw [Function.iterate_succ_apply, ih]; rfl

/-- XTEA.DEC is XTEA.DROUND repeated from the start sum (R198). -/
theorem xteaDec_eq_iterate (key : KeySel) (rounds : Nat) (s : State) :
    xteaDec key rounds s = (xteaDround key)^[rounds] { s with sum := startSum rounds } := by
  rw [xteaDround_eq_onBlock, iterate_onBlock, xteaDec]
  unfold decBlock
  rfl

/-- XTEA.ENC is XTEA.EROUND repeated from the sum 0 (R206). -/
theorem xteaEnc_eq_iterate (key : KeySel) (rounds : Nat) (s : State) :
    xteaEnc key rounds s = (xteaEround key)^[rounds] { s with sum := 0 } := by
  rw [xteaEround_eq_onBlock, iterate_onBlock, xteaEnc]
  unfold encBlock
  rfl

/-- An operation that always completes, repeated, is a run of it. -/
theorem exists_run_of_exec {i : Instr} {op : State → State} (hexec : ∀ s, exec i s = .next (op s)) (n : Nat)
    (s : State) :
    ∃ run : Nat → State, run 0 = s ∧ (∀ k, k < n → exec i (run k) = .next (run (k + 1))) ∧ op^[n] s = run n := by
  refine ⟨fun k => op^[k] s, rfl, fun k _ => ?_, rfl⟩
  exact (hexec _).trans (congrArg _ (Function.iterate_succ_apply' op k s).symm)

/-! ### The sum -/

/-- Rounds that each add `d` to the sum add it as often as they are repeated. -/
theorem repeatRound_sum {round : Block → Block} {d : Word} (hround : ∀ b, (round b).sum = b.sum + d) (n : Nat)
    (b : Block) : (repeatRound round n b).sum = b.sum + d * BitVec.ofNat 32 n := by
  induction n generalizing b with
  | zero => simp [repeatRound]
  | succ n ih =>
    rw [repeatRound, ih, hround, BitVec.ofNat_add, BitVec.mul_succ, BitVec.add_assoc, BitVec.add_comm d]

/-- XTEA.DEC counts its start sum down to 0 (R198). -/
theorem decBlock_sum (key : Key) (rounds : Nat) (v0 v1 : Word) : (decBlock key rounds v0 v1).sum = 0 := by
  have hround (b : Block) : (droundBlock key b).sum = b.sum + -delta := sub_eq_add_neg b.sum delta
  unfold decBlock
  rw [repeatRound_sum hround, startSum, BitVec.neg_mul]
  exact BitVec.add_right_neg _

/-- XTEA.ENC counts from 0 up to the sum XTEA.DEC starts with (R206). -/
theorem encBlock_sum (key : Key) (rounds : Nat) (v0 v1 : Word) :
    (encBlock key rounds v0 v1).sum = startSum rounds := by
  have hround (b : Block) : (eroundBlock key b).sum = b.sum + delta := rfl
  unfold encBlock
  rw [repeatRound_sum hround, startSum]
  exact BitVec.zero_add _

/-- The start sum as a number modulo 2^32 (R198). -/
theorem startSum_eq_ofNat (rounds : Nat) : startSum rounds = BitVec.ofNat 32 (0x9E3779B9 * rounds) :=
  (BitVec.ofNat_mul 0x9E3779B9 rounds).symm

/-- Settles O38: both operations are runs of their round, and the sum goes from `DELTA * rounds` to 0 or back. -/
theorem xteaDecAndEncAreTheirRounds : Obligations.XteaDecAndEncAreTheirRounds := by
  refine ⟨rfl, rfl, fun s key rounds => ⟨?_, ?_⟩⟩
  · refine (does_iff_of_exec (exec_xteaDec key rounds s)).2 ⟨rfl, decBlock_sum _ _ _ _, ?_⟩
    rw [xteaDec_eq_iterate, startSum_eq_ofNat]
    exact exists_run_of_exec (exec_xteaDround key) rounds _
  · refine (does_iff_of_exec (exec_xteaEnc key rounds s)).2 ⟨rfl, ?_, ?_⟩
    · exact (encBlock_sum _ _ _ _).trans (startSum_eq_ofNat rounds)
    · rw [xteaEnc_eq_iterate]
      exact exists_run_of_exec (exec_xteaEround key) rounds _

/-! ### A region of the frame buffer -/

/-- CIPHER.BLOCK writes no byte outside its region (R202). -/
theorem cipherBlock_raw_outside (o : Fin 22) (key : KeySel) (s : State) (k : Fin 29)
    (h : k.val < o.val ∨ o.val + 8 ≤ k.val) : (cipherBlock o key s).raw[k] = s.raw[k] := by
  rw [cipherBlock, xteaWb_raw, xteaDec_raw, xteaUnpack_raw]
  exact writeRegion_outside s.raw o _ k h

/-- Settles O41: CIPHER.BLOCK writes its region and the cipher registers alone, and ends where its three operations
end. -/
theorem cipherBlockIsItsExpansion : Obligations.CipherBlockIsItsExpansion := by
  refine ⟨rfl, fun s key o ho => (does_iff_of_exec (exec_cipherBlock ho key s)).2
    ⟨rfl, cipherBlock_raw_outside ⟨o, Nat.lt_succ_of_le ho⟩ key s, ?_⟩⟩
  rw [does_iff_of_exec (exec_xteaUnpack ho s), does_iff_of_exec (exec_xteaDec key s.cfg.rounds _),
    does_iff_of_exec (exec_xteaWb ho _)]
  rfl

end Sys2Proof.Machine

/-! ## The field extractor -/

namespace Sys2Proof.Machine

/-! ### What each operation answers -/

/-- FX.ID completes from every state (R221). -/
theorem exec_fxId (s : State) : exec .fxId s = .next (fxId s) := rfl

/-- FX.LAT completes from every state (R223). -/
theorem exec_fxLat (s : State) : exec .fxLat s = .next (fxLat s) := rfl

/-- FX.LON completes from every state (R224). -/
theorem exec_fxLon (s : State) : exec .fxLon s = .next (fxLon s) := rfl

/-- FX.ALT completes from every state (R225). -/
theorem exec_fxAlt (s : State) : exec .fxAlt s = .next (fxAlt s) := rfl

/-- FX.VS completes from every state (R226). -/
theorem exec_fxVs (s : State) : exec .fxVs s = .next (fxVs s) := rfl

/-- FX.STEALTH completes from every state (R227). -/
theorem exec_fxStealth (s : State) : exec .fxStealth s = .next (fxStealth s) := rfl

/-- FX.TYPE completes from every state (R228). -/
theorem exec_fxType (s : State) : exec .fxType s = .next (fxType s) := rfl

/-- FX.NS completes from every state (R229). -/
theorem exec_fxNs (s : State) : exec .fxNs s = .next (fxNs s) := rfl

/-- FX.EW completes from every state (R230). -/
theorem exec_fxEw (s : State) : exec .fxEw s = .next (fxEw s) := rfl

/-- FX.FRAME completes from every state (R231). -/
theorem exec_fxFrame (s : State) : exec .fxFrame s = .next (fxFrame s) := rfl

/-! ### Unsigned fields as numbers -/

/-- A concatenation as a number: the left part stands above the right one. -/
theorem append_toNat {v w : Nat} (hi : BitVec v) (lo : BitVec w) :
    (hi ++ lo).toNat = lo.toNat + 2 ^ w * hi.toNat := by
  rw [BitVec.toNat_append, ← Nat.shiftLeft_add_eq_or_of_lt lo.isLt, Nat.shiftLeft_eq, Nat.mul_comm, Nat.add_comm]

/-- Three bytes as a number, the last one least significant. -/
theorem append_three_toNat (b2 b1 b0 : Byte) :
    (b2 ++ b1 ++ b0).toNat = b0.toNat + 256 * b1.toNat + 65536 * b2.toNat := by
  rw [append_toNat, append_toNat]
  omega

/-- The identifier as a number (R221). -/
theorem fieldId_toNat (raw : Vector Byte 29) :
    (fieldId raw).toNat = raw[3].toNat + 256 * raw[4].toNat + 65536 * raw[5].toNat := by
  unfold fieldId
  exact append_three_toNat (telem raw 2) (telem raw 1) (telem raw 0)

/-- The latitude as a number (R223). -/
theorem fieldLat_toNat (raw : Vector Byte 29) : (fieldLat raw).toNat = raw[7].toNat + 256 * raw[8].toNat := by
  unfold fieldLat
  exact append_toNat (telem raw 5) (telem raw 4)

/-- The longitude as a number (R224). -/
theorem fieldLon_toNat (raw : Vector Byte 29) : (fieldLon raw).toNat = raw[9].toNat + 256 * raw[10].toNat := by
  unfold fieldLon
  exact append_toNat (telem raw 7) (telem raw 6)

/-- The altitude as a number: the low five bits of its high byte count (R225). -/
theorem fieldAlt_toNat (raw : Vector Byte 29) :
    (fieldAlt raw).toNat = raw[11].toNat + 256 * (raw[12].toNat % 32) := by
  unfold fieldAlt
  rw [append_toNat, BitVec.extractLsb'_toNat, Nat.shiftRight_zero]
  rfl

/-- The stealth bit is 1 exactly when its byte is at least 0x80 (R227). -/
theorem fieldStealth_eq (raw : Vector Byte 29) : fieldStealth raw = decide (0x80 ≤ raw[14].toNat) := by
  unfold fieldStealth
  rw [← BitVec.msb_eq_getLsbD_last (telem raw 11), BitVec.msb_eq_decide]
  rfl

/-- The stealth bit as a condition on its byte. -/
theorem fieldStealth_iff (raw : Vector Byte 29) : fieldStealth raw = true ↔ 0x80 ≤ raw[14].toNat := by
  rw [fieldStealth_eq, decide_eq_true_iff]

/-- The type code as a number (R228). -/
theorem fieldType_toNat (raw : Vector Byte 29) : (fieldType raw).toNat = raw[14].toNat / 4 % 16 := by
  unfold fieldType
  rw [BitVec.extractLsb'_toNat, Nat.shiftRight_eq_div_pow]
  rfl

/-- Settles O43: FX.ID writes the identifier alone, and it is the number of its three bytes. -/
theorem fxIdIsLittleEndian : Obligations.FxIdIsLittleEndian :=
  ⟨rfl, fun s => (does_iff_of_exec (exec_fxId s)).2 ⟨rfl, fieldId_toNat s.raw⟩⟩

/-- Settles O45: each of the three operations writes its field alone, and that is the number of its two bytes. -/
theorem fxPositionFields : Obligations.FxPositionFields := by
  refine ⟨rfl, rfl, rfl, fun s => ⟨?_, ?_, ?_⟩⟩
  · exact (does_iff_of_exec (exec_fxLat s)).2 ⟨rfl, fieldLat_toNat s.raw⟩
  · exact (does_iff_of_exec (exec_fxLon s)).2 ⟨rfl, fieldLon_toNat s.raw⟩
  · exact (does_iff_of_exec (exec_fxAlt s)).2 ⟨rfl, fieldAlt_toNat s.raw⟩

/-- Settles O47: each of the two operations writes its field alone, from its bits of one byte. -/
theorem fxStealthAndType : Obligations.FxStealthAndType := by
  refine ⟨rfl, rfl, fun s => ⟨?_, ?_⟩⟩
  · exact (does_iff_of_exec (exec_fxStealth s)).2 ⟨rfl, fieldStealth_iff s.raw⟩
  · exact (does_iff_of_exec (exec_fxType s)).2 ⟨rfl, fieldType_toNat s.raw⟩

/-! ### The vertical speed -/

/-- The magnitude as a number (R226). -/
theorem vsMag_toNat (raw : Vector Byte 29) :
    (vsMag raw).toNat = raw[12].toNat / 32 + 8 * (raw[13].toNat / 2) := by
  have hlow : (telem raw 9).toNat / 2 ^ 5 < 2 ^ 3 := Nat.div_lt_of_lt_mul (telem raw 9).isLt
  have hhigh : (telem raw 10).toNat / 2 ^ 1 < 2 ^ 7 := Nat.div_lt_of_lt_mul (telem raw 10).isLt
  rw [vsMag, append_toNat, BitVec.extractLsb'_toNat, BitVec.extractLsb'_toNat, Nat.shiftRight_eq_div_pow,
    Nat.shiftRight_eq_div_pow, Nat.mod_eq_of_lt hlow, Nat.mod_eq_of_lt hhigh]
  rfl

/-- The multiplier as a number (R226). -/
theorem vsMult_toNat (raw : Vector Byte 29) : (vsMult raw).toNat = raw[24].toNat / 64 := by
  have htop : (telem raw 21).toNat / 2 ^ 6 < 2 ^ 2 := Nat.div_lt_of_lt_mul (telem raw 21).isLt
  rw [vsMult, BitVec.extractLsb'_toNat, Nat.shiftRight_eq_div_pow, Nat.mod_eq_of_lt htop]
  rfl

/-- The vertical speed lies in the range R33 gives. -/
theorem vsValue_bounds (mag : BitVec 10) (mult : BitVec 2) :
    -512 ≤ vsValue mag mult ∧ vsValue mag mult ≤ 4088 := by
  have hmag : mag.toNat < 0x400 := mag.isLt
  rw [vsValue]
  split
  case isTrue hlow =>
    have hpow : 2 ^ mult.toNat ≤ 2 ^ 3 := Nat.pow_le_pow_right (by decide) (Nat.le_of_lt_succ mult.isLt)
    have hshift : mag.toNat * 2 ^ mult.toNat ≤ 511 * 2 ^ 3 := Nat.mul_le_mul (Nat.le_of_lt_succ hlow) hpow
    rw [Nat.shiftLeft_eq]
    omega
  case isFalse hhigh => omega

/-- The register holds the vertical speed without loss. -/
theorem fieldVs_toInt_eq_vsValue (raw : Vector Byte 29) :
    (fieldVs raw).toInt = vsValue (vsMag raw) (vsMult raw) := by
  obtain ⟨hlow, hhigh⟩ := vsValue_bounds (vsMag raw) (vsMult raw)
  unfold fieldVs
  exact BitVec.toInt_ofInt_eq_self (by decide) (by omega) (by omega)

/-- The vertical speed from the bytes of the frame (R103, R226). -/
theorem fieldVs_toInt (raw : Vector Byte 29) :
    (fieldVs raw).toInt =
      if raw[12].toNat / 32 + 8 * (raw[13].toNat / 2) < 0x200 then
        (((raw[12].toNat / 32 + 8 * (raw[13].toNat / 2)) * 2 ^ (raw[24].toNat / 64) : Nat) : Int)
      else ((raw[12].toNat / 32 + 8 * (raw[13].toNat / 2) : Nat) : Int) - 0x400 := by
  rw [fieldVs_toInt_eq_vsValue, vsValue, vsMag_toNat, vsMult_toNat, Nat.shiftLeft_eq]

/-- Settles O46: FX.VS writes the vertical speed alone, and 16 bits hold its value on either branch. -/
theorem fxVsIsAsymmetric : Obligations.FxVsIsAsymmetric :=
  ⟨rfl, fun s => (does_iff_of_exec (exec_fxVs s)).2 ⟨rfl, fieldVs_toInt s.raw⟩⟩

/-! ### The velocities -/

/-- The signed reading of a byte is its two's complement value (R13). -/
theorem s8_eq_toInt (b : Byte) : s8 b = b.toInt := by
  rw [s8, BitVec.toInt_eq_toNat_cond]
  split <;> split <;> omega

/-- An element of a velocity is its byte, unchanged. -/
theorem ofInt_s8 (b : Byte) : BitVec.ofInt 8 (s8 b) = b := by
  rw [s8_eq_toInt, BitVec.ofInt_toInt]

/-- Lane `k` of `NS` (R229). -/
theorem fieldNs_getElem (raw : Vector Byte 29) (k : Fin 4) : (fieldNs raw)[k] = raw[15 + k.val] := by
  unfold fieldNs
  rw [Fin.getElem_fin, Vector.getElem_ofFn, ofInt_s8]
  simp only [telem, ← Nat.add_assoc, Nat.reduceAdd]

/-- Lane `k` of `EW` (R230). -/
theorem fieldEw_getElem (raw : Vector Byte 29) (k : Fin 4) : (fieldEw raw)[k] = raw[19 + k.val] := by
  unfold fieldEw
  rw [Fin.getElem_fin, Vector.getElem_ofFn, ofInt_s8]
  simp only [telem, ← Nat.add_assoc, Nat.reduceAdd]

/-- Lane `k` of `NS` as a number. -/
theorem fieldNs_toInt (raw : Vector Byte 29) (k : Fin 4) : (fieldNs raw)[k].toInt = s8 raw[15 + k.val] := by
  rw [fieldNs_getElem, s8_eq_toInt]

/-- Lane `k` of `EW` as a number. -/
theorem fieldEw_toInt (raw : Vector Byte 29) (k : Fin 4) : (fieldEw raw)[k].toInt = s8 raw[19 + k.val] := by
  rw [fieldEw_getElem, s8_eq_toInt]

/-- Settles O48: each of the two operations writes its field alone, and every lane is the signed reading of its byte. -/
theorem fxVelocitiesAreSigned : Obligations.FxVelocitiesAreSigned := by
  refine ⟨rfl, rfl, fun s => ⟨?_, ?_⟩⟩
  · exact (does_iff_of_exec (exec_fxNs s)).2 ⟨rfl, fieldNs_toInt s.raw⟩
  · exact (does_iff_of_exec (exec_fxEw s)).2 ⟨rfl, fieldEw_toInt s.raw⟩

/-! ### The whole record -/

/-- Telemetry byte `a` is byte `3 + a` of the frame (R98). -/
theorem telemetry_getElem (raw : Vector Byte 29) (a : Nat) (ha : a < 24) :
    (telemetry raw)[a] = raw[3 + a] :=
  Vector.getElem_ofFn ha

/-- The record of a frame holds the fields of its telemetry (R231). -/
theorem extractRecord_fieldsOf (raw : Vector Byte 29) : FieldsOf (telemetry raw) (extractRecord raw) := by
  constructor <;> simp only [magNumber, telemetry_getElem, ← Nat.add_assoc, Nat.reduceAdd]
  case id => exact fieldId_toNat raw
  case lat => exact fieldLat_toNat raw
  case lon => exact fieldLon_toNat raw
  case alt => exact fieldAlt_toNat raw
  case vs => exact fieldVs_toInt raw
  case stealth => exact fieldStealth_eq raw
  case type => exact fieldType_toNat raw
  case ns => exact fieldNs_toInt raw
  case ew => exact fieldEw_toInt raw

/-- FX.FRAME is the nine single extractions in turn: each reads `RAW` and writes its own field (R117, R231). -/
theorem fxFrame_eq_nine (s : State) :
    fxFrame s = fxEw (fxNs (fxType (fxStealth (fxVs (fxAlt (fxLon (fxLat (fxId s)))))))) := by
  simp only [fxFrame, extractRecord, fxId, fxLat, fxLon, fxAlt, fxVs, fxStealth, fxType, fxNs, fxEw]

/-- Settles O49: FX.FRAME writes the record alone, with the nine fields of the telemetry, and ends where the nine single
extractions end. -/
theorem fxFrameFillsTheRecord : Obligations.FxFrameFillsTheRecord := by
  refine ⟨rfl, fun s => (does_iff_of_exec (exec_fxFrame s)).2 ⟨rfl, extractRecord_fieldsOf s.raw, ?_⟩⟩
  rw [does_iff_of_exec (exec_fxId s), does_iff_of_exec (exec_fxLat _), does_iff_of_exec (exec_fxLon _),
    does_iff_of_exec (exec_fxAlt _), does_iff_of_exec (exec_fxVs _), does_iff_of_exec (exec_fxStealth _),
    does_iff_of_exec (exec_fxType _), does_iff_of_exec (exec_fxNs _), does_iff_of_exec (exec_fxEw _)]
  exact fxFrame_eq_nine s

end Sys2Proof.Machine

/-! ## The gates of FRAME.PROCESS -/

namespace Sys2Proof.Machine

/-! ### What each operation answers -/

/-- LC.VALIDATE completes from every state (R153). -/
theorem exec_lcValidate (s : State) : exec .lcValidate s = .next (lcValidate s) := rfl

/-- LC.DECODE completes from every state (R159). -/
theorem exec_lcDecode (s : State) : exec .lcDecode s = .next (lcDecode s) := rfl

/-- FRAME.PROCESS completes from every state (R250). -/
theorem exec_frameProcess (s : State) : exec .frameProcess s = .next (frameProcess s) := rfl

/-! ### The line-code gate -/

/-- On a violation FRAME.PROCESS is LC.VALIDATE, but for `STAGE` and the failure latch (R277). -/
theorem frameProcess_eq_lcValidate_of_violation {s : State} (h : lineCodeError s.win = true) :
    frameProcess s =
      { lcValidate s with stage := (frameProcess s).stage, failure := (frameProcess s).failure } := by
  rw [frameProcess_of_violation h, lcValidate, h]

/-- Settles O21: LC.VALIDATE writes its flag alone, and FRAME.PROCESS stops at that flag. -/
theorem lcValidateSetsLcerr : Obligations.LcValidateSetsLcerr := by
  refine ⟨rfl, fun s => (does_iff_of_exec (exec_lcValidate s)).2 ⟨rfl, lineCodeError_iff s.win, fun hviolation => ?_⟩⟩
  exact (does_iff_of_exec (exec_frameProcess s)).2 (frameProcess_eq_lcValidate_of_violation hviolation)

/-! ### The checksum gate -/

/-- The state of the check after CRC.INIT and CRC.BYTE over the first `k` bytes of the frame. -/
def crcPrefix (s : State) (k : Nat) : State :=
  { s with crc := (s.raw.toList.take k).foldl crcByteStep crcInitValue }

/-- The check begins with CRC.INIT (R178). -/
theorem crcPrefix_zero (s : State) : crcPrefix s 0 = crcInit s := rfl

/-- CRC.BYTE takes in the next byte of the frame (R178). -/
theorem crcByte_crcPrefix (s : State) (m : Fin 29) :
    crcByte s.raw[m] (crcPrefix s m.val) = crcPrefix s (m.val + 1) := by
  have hm : m.val < s.raw.toList.length := by simp
  have htake : s.raw.toList.take (m.val + 1) = s.raw.toList.take m.val ++ [s.raw[m]] := by
    rw [List.take_succ_eq_append_getElem hm, Vector.getElem_toList, Fin.getElem_fin]
  simp only [crcPrefix, htake, List.foldl_concat, crcByte]

/-- CRC.FINAL after the last byte leaves the residue of the frame (R178). -/
theorem crcFinal_crcPrefix_crc (s : State) : (crcFinal (crcPrefix s 29)).crc = residue s.raw := by
  have hall : s.raw.toList.take 29 = s.raw.toList := List.take_of_length_le (by simp)
  unfold residue crcOfFrame
  simp only [crcFinal, crcPrefix, hall]

/-- CRC.CHECK leaves the register where CRC.INIT, CRC.BYTE over the 29 bytes in order and CRC.FINAL leave it (R178). -/
theorem crcCheck_crc_eq_run (s : State) :
    Does .crcInit s fun s0 =>
      ∃ run : Nat → State, run 0 = s0 ∧
        (∀ m : Fin 29, exec (.crcByte s.raw[m]) (run m.val) = .next (run (m.val + 1))) ∧
        Does .crcFinal (run 29) fun u => (crcCheck s).crc = u.crc := by
  refine (does_iff_of_exec (exec_crcInit s)).2 ⟨crcPrefix s, crcPrefix_zero s, fun m => ?_, ?_⟩
  · rw [exec_crcByte, crcByte_crcPrefix]
  · exact (does_iff_of_exec (exec_crcFinal _)).2 (crcFinal_crcPrefix_crc s).symm

/-- On a mismatch FRAME.PROCESS is LC.DECODE and CRC.CHECK, but for `STAGE` and the failure latch (R272, R277). -/
theorem frameProcess_eq_crcCheck_of_mismatch {s : State} (hlegal : lineCodeError s.win = false)
    (hmismatch : residue (frameOf s.win) ≠ 0) :
    frameProcess s =
      { crcCheck (lcDecode s) with stage := (frameProcess s).stage, failure := (frameProcess s).failure } := by
  have hflag : residueIsZero (residue (frameOf s.win)) = false := by
    rwa [← Bool.not_eq_true, residueIsZero_iff]
  rw [frameProcess_of_mismatch hlegal hmismatch, lcDecode_of_legal hlegal]
  simp only [crcCheck, hflag]

/-- Settles O31: CRC.CHECK is the run of its three operations, its flag says that the residue is zero, and FRAME.PROCESS
stops at that flag. -/
theorem crcCheckValidatesTheFrame : Obligations.CrcCheckValidatesTheFrame := by
  refine ⟨rfl, fun s => ?_, fun s => ?_⟩
  · exact (does_iff_of_exec (exec_crcCheck s)).2 ⟨rfl, residueIsZero_iff _, crcCheck_crc_eq_run s⟩
  · rw [does_iff_of_exec (exec_lcDecode s), does_iff_of_exec (exec_crcCheck _),
      does_iff_of_exec (exec_frameProcess s), lcDecode_lcerr]
    intro hlegal hflag
    refine frameProcess_eq_crcCheck_of_mismatch hlegal fun hzero => ?_
    rw [lcDecode_of_legal hlegal, crcCheck_crcok, hzero] at hflag
    cases hflag

end Sys2Proof.Machine

/-! ## The operation table -/

namespace Sys2Proof

/-! ### Operand forms: what each gives back, and what it accepts -/

/-- A bit is written as 0 or 1. -/
theorem toBit_toNat (c : BitVec 8) (b : Bool) : toBit c b.toNat = .ok b := by cases b <;> rfl

/-- Nothing but the number of a bit is read as one. -/
theorem toBit_eq_ok {c : BitVec 8} {n : Nat} {b : Bool} (h : toBit c n = .ok b) : b.toNat = n := by
  unfold toBit at h
  split at h <;> cases h <;> rfl

/-- A key register file is written as its number (log 1). -/
theorem toKey_keyNumber (c : BitVec 8) (key : KeySel) : toKey c (keyNumber key) = .ok key := by cases key <;> rfl

/-- Nothing but the number of a key register file is read as one (log 1). -/
theorem toKey_eq_ok {c : BitVec 8} {n : Nat} {key : KeySel} (h : toKey c n = .ok key) : keyNumber key = n := by
  unfold toKey at h
  split at h <;> cases h <;> rfl

/-- An answer mapped by `f` is `f` of an answer. -/
theorem map_eq_ok {α β : Type} {x : Except DecodeError α} {f : α → β} {b : β} (h : x.map f = .ok b) :
    ∃ a, x = .ok a ∧ f a = b := by
  cases x with
  | error e => cases h
  | ok a => exact ⟨a, rfl, Except.ok.inj h⟩

theorem bitOperand_toNat (c : BitVec 8) (f : Bool → Instr) (d : Bool) : bitOperand c f [d.toNat] = .ok (f d) := by
  rw [bitOperand, toBit_toNat]; rfl

theorem bitsOperand_toNat (c : BitVec 8) (f : Bool → Bool → Instr) (a b : Bool) :
    bitsOperand c f [a.toNat, b.toNat] = .ok (f a b) := by
  rw [bitsOperand, toBit_toNat, toBit_toNat]

theorem byteOperand_toNat (c : BitVec 8) (f : Byte → Instr) (b : Byte) : byteOperand c f [b.toNat] = .ok (f b) := by
  rw [byteOperand, if_pos b.isLt, BitVec.ofNat_toNat, BitVec.setWidth_eq]

theorem keyOperand_keyNumber (c : BitVec 8) (f : KeySel → Instr) (key : KeySel) :
    keyOperand c f [keyNumber key] = .ok (f key) := by
  rw [keyOperand, toKey_keyNumber]; rfl

theorem keyRoundsOperand_keyNumber (c : BitVec 8) (f : KeySel → Nat → Instr) (key : KeySel) (rounds : Nat) :
    keyRoundsOperand c f [keyNumber key, rounds] = .ok (f key rounds) := by
  rw [keyRoundsOperand, toKey_keyNumber]; rfl

theorem offsetOperand_of_le (c : BitVec 8) (f : Nat → Instr) {o : Nat} (ho : o ≤ maxRegionOffset) :
    offsetOperand c f [o] = .ok (f o) :=
  if_pos ho

theorem offsetKeyOperand_of_le (c : BitVec 8) (f : Nat → KeySel → Instr) {o : Nat} (ho : o ≤ maxRegionOffset)
    (key : KeySel) : offsetKeyOperand c f [o, keyNumber key] = .ok (f o key) := by
  rw [offsetKeyOperand, if_pos ho, toKey_keyNumber]; rfl

/-! ### Encoding, then decoding -/

/-- Settles O4: row by row, the operand form of the row gives back what the encoder wrote; the one bound that
well-formedness sets is the one the form tests. -/
theorem decodeInvertsEncode : Obligations.DecodeInvertsEncode := by
  intro i hwf
  cases i
  case lcSym a b => exact bitsOperand_toNat _ _ a b
  case crcBit d => exact bitOperand_toNat _ _ d
  case crcByte b => exact byteOperand_toNat _ _ b
  case xteaUnpack o => exact offsetOperand_of_le _ _ (of_decide_eq_true hwf)
  case xteaWb o => exact offsetOperand_of_le _ _ (of_decide_eq_true hwf)
  case cipherBlock o key => exact offsetKeyOperand_of_le _ _ (of_decide_eq_true hwf) key
  case xteaDround key => exact keyOperand_keyNumber _ _ key
  case xteaEround key => exact keyOperand_keyNumber _ _ key
  case xteaDec key rounds => exact keyRoundsOperand_keyNumber _ _ key rounds
  case xteaEnc key rounds => exact keyRoundsOperand_keyNumber _ _ key rounds
  all_goals rfl

/-! ### Decoding, then encoding -/

/-- A reader of the operands of number `c` accepts only the words of well-formed operations. -/
def Canonical (c : BitVec 8) (read : List Nat → Except DecodeError Instr) : Prop :=
  ∀ operands i, read operands = .ok i → encode i = .op c operands ∧ i.wellFormed = true

section
variable {c : BitVec 8}

theorem canonical_noOperand {i : Instr} (henc : encode i = .op c []) (hwf : i.wellFormed = true) :
    Canonical c (noOperand c i) := by
  intro operands j h
  unfold noOperand at h
  split at h <;> cases h
  exact ⟨henc, hwf⟩

theorem canonical_natOperand {f : Nat → Instr} (henc : ∀ n, encode (f n) = .op c [n])
    (hwf : ∀ n, (f n).wellFormed = true) : Canonical c (natOperand c f) := by
  intro operands j h
  unfold natOperand at h
  split at h <;> cases h
  exact ⟨henc _, hwf _⟩

theorem canonical_bitOperand {f : Bool → Instr} (henc : ∀ d, encode (f d) = .op c [d.toNat])
    (hwf : ∀ d, (f d).wellFormed = true) : Canonical c (bitOperand c f) := by
  intro operands j h
  unfold bitOperand at h
  split at h
  · obtain ⟨d, hd, rfl⟩ := map_eq_ok h
    rw [henc, toBit_eq_ok hd]
    exact ⟨rfl, hwf d⟩
  · cases h

theorem canonical_bitsOperand {f : Bool → Bool → Instr} (henc : ∀ a b, encode (f a b) = .op c [a.toNat, b.toNat])
    (hwf : ∀ a b, (f a b).wellFormed = true) : Canonical c (bitsOperand c f) := by
  intro operands j h
  unfold bitsOperand at h
  split at h
  · split at h
    · rename_i ha hb
      cases h
      rw [henc, toBit_eq_ok ha, toBit_eq_ok hb]
      exact ⟨rfl, hwf _ _⟩
    · cases h
  · cases h

theorem canonical_byteOperand {f : Byte → Instr} (henc : ∀ b, encode (f b) = .op c [b.toNat])
    (hwf : ∀ b, (f b).wellFormed = true) : Canonical c (byteOperand c f) := by
  intro operands j h
  unfold byteOperand at h
  split at h
  · split at h
    · rename_i hb
      cases h
      rw [henc, BitVec.toNat_ofNat, Nat.mod_eq_of_lt hb]
      exact ⟨rfl, hwf _⟩
    · cases h
  · cases h

theorem canonical_keyOperand {f : KeySel → Instr} (henc : ∀ key, encode (f key) = .op c [keyNumber key])
    (hwf : ∀ key, (f key).wellFormed = true) : Canonical c (keyOperand c f) := by
  intro operands j h
  unfold keyOperand at h
  split at h
  · obtain ⟨key, hkey, rfl⟩ := map_eq_ok h
    rw [henc, toKey_eq_ok hkey]
    exact ⟨rfl, hwf key⟩
  · cases h

theorem canonical_keyRoundsOperand {f : KeySel → Nat → Instr}
    (henc : ∀ key rounds, encode (f key rounds) = .op c [keyNumber key, rounds])
    (hwf : ∀ key rounds, (f key rounds).wellFormed = true) : Canonical c (keyRoundsOperand c f) := by
  intro operands j h
  unfold keyRoundsOperand at h
  split at h
  · obtain ⟨key, hkey, rfl⟩ := map_eq_ok h
    rw [henc, toKey_eq_ok hkey]
    exact ⟨rfl, hwf key _⟩
  · cases h

theorem canonical_offsetOperand {f : Nat → Instr} (henc : ∀ o, encode (f o) = .op c [o])
    (hwf : ∀ o, (f o).wellFormed = decide (o ≤ maxRegionOffset)) : Canonical c (offsetOperand c f) := by
  intro operands j h
  unfold offsetOperand at h
  split at h
  · split at h
    · rename_i ho
      cases h
      exact ⟨henc _, (hwf _).trans (decide_eq_true ho)⟩
    · cases h
  · cases h

theorem canonical_offsetKeyOperand {f : Nat → KeySel → Instr}
    (henc : ∀ o key, encode (f o key) = .op c [o, keyNumber key])
    (hwf : ∀ o key, (f o key).wellFormed = decide (o ≤ maxRegionOffset)) : Canonical c (offsetKeyOperand c f) := by
  intro operands j h
  unfold offsetKeyOperand at h
  split at h
  · split at h
    · rename_i ho
      obtain ⟨key, hkey, rfl⟩ := map_eq_ok h
      rw [henc, toKey_eq_ok hkey]
      exact ⟨rfl, (hwf _ _).trans (decide_eq_true ho)⟩
    · cases h
  · cases h

end

/-- A number is known by its value. -/
theorem eq_ofNat_of_toNat {c : BitVec 8} {n : Nat} (h : c.toNat = n) : c = BitVec.ofNat 8 n := by
  rw [← h, BitVec.ofNat_toNat, BitVec.setWidth_eq]

/-- The reader of every row accepts only the words of the row's operation, and no other number has a reader (R110). -/
theorem canonical_decodeOp (c : BitVec 8) : Canonical c (decodeOp c) := by
  unfold decodeOp
  split
  case h_36 => exact fun operands i h => nomatch h
  all_goals
    rename_i hc
    obtain rfl := eq_ofNat_of_toNat hc
  case h_1 | h_3 | h_5 => exact canonical_natOperand (fun _ => rfl) fun _ => rfl
  case h_7 => exact canonical_bitsOperand (fun _ _ => rfl) fun _ _ => rfl
  case h_13 => exact canonical_bitOperand (fun _ => rfl) fun _ => rfl
  case h_14 => exact canonical_byteOperand (fun _ => rfl) fun _ => rfl
  case h_17 | h_20 => exact canonical_offsetOperand (fun _ => rfl) fun _ => rfl
  case h_18 | h_23 => exact canonical_keyOperand (fun _ => rfl) fun _ => rfl
  case h_19 | h_24 => exact canonical_keyRoundsOperand (fun _ _ => rfl) fun _ _ => rfl
  case h_21 => exact canonical_offsetKeyOperand (fun _ _ => rfl) fun _ _ => rfl
  all_goals exact canonical_noOperand rfl rfl

/-- Settles O5: an operation word is read by the reader of its number, a symbol pair by the four rows of the symbol
table. -/
theorem decodedWordsAreCanonical : Obligations.DecodedWordsAreCanonical := by
  intro w i h
  cases w with
  | op c operands => exact canonical_decodeOp c operands i h
  | sym first second => cases first <;> cases second <;> cases h <;> exact ⟨rfl, rfl⟩

/-- Settles O6: the decoder evaluated on each word. -/
theorem tableWordsDecode : Obligations.TableWordsDecode := ⟨rfl, rfl, rfl, rfl, rfl, rfl, rfl⟩

/-- Settles O7: the rows of `decodeOp` are the numbers of the list, and every other number is its last branch. -/
theorem otherNumbersAreRejected : Obligations.OtherNumbersAreRejected := by
  intro c operands hrow
  have hread : decodeOp c = fun _ => .error (.reservedCode c) := by
    unfold decodeOp
    split
    case h_36 => rfl
    all_goals
      rename_i hc
      rw [hc] at hrow
      exact absurd (by decide) hrow
  exact congrFun hread operands

end Sys2Proof

/-! ## FRAME.PROCESS -/

namespace Sys2Proof.Machine

/-- CIPHER.FRAME completes from every state (R203). -/
theorem exec_cipherFrame (s : State) : exec .cipherFrame s = .next (cipherFrame s) := rfl

/-! ### The three outcomes -/

/-- A window whose check fails ends FRAME.PROCESS where CRC.CHECK left it (R272). -/
theorem frameProcess_eq_of_mismatch {s : State} (hlegal : lineCodeError s.win = false)
    (hflag : (crcCheck (lcDecode s)).crcok = false) :
    frameProcess s = { crcCheck (lcDecode s) with stage := .crc, failure := some .checksumMismatch } := by
  rw [lcDecode_of_legal hlegal] at hflag ⊢
  have hmismatch : residue (frameOf s.win) ≠ 0 := fun hzero => by
    rw [crcCheck_crcok, (residueIsZero_iff _).2 hzero] at hflag
    cases hflag
  rw [frameProcess_of_mismatch hlegal hmismatch, ← hflag]
  rfl

/-- A valid frame goes through CIPHER.FRAME and FX.FRAME, and its record is appended (R250). -/
theorem frameProcess_eq_of_valid {s : State} (hlegal : lineCodeError s.win = false)
    (hflag : (crcCheck (lcDecode s)).crcok = true) :
    frameProcess s =
      { fxFrame (cipherFrame (crcCheck (lcDecode s))) with
        stage := .fx
        frames := s.frames ++ [(fxFrame (cipherFrame (crcCheck (lcDecode s)))).record]
        failure := none } := by
  rw [lcDecode_of_legal hlegal] at hflag ⊢
  have hzero : residue (frameOf s.win) = 0 := (residueIsZero_iff _).1 hflag
  rw [frameProcess_of_valid hlegal hzero, cipherFrame_eq]
  ext <;> simp [hzero, residueIsZero]

/-- Settles O51: the two gates in their order, and behind them the cipher, the extractor and the emission. -/
theorem frameProcessHasThreeOutcomes : Obligations.FrameProcessHasThreeOutcomes := by
  refine ⟨rfl, fun s => ?_⟩
  rw [does_iff_of_exec (exec_frameProcess s), does_iff_of_exec (exec_lcDecode s), does_iff_of_exec (exec_crcCheck _),
    does_iff_of_exec (exec_cipherFrame _), does_iff_of_exec (exec_fxFrame _)]
  refine ⟨fun h => ?_, fun h => frameProcess_eq_of_mismatch ((lcDecode_lcerr s).symm.trans h),
    fun h => frameProcess_eq_of_valid ((lcDecode_lcerr s).symm.trans h)⟩
  have hviolation : lineCodeError s.win = true := (lcDecode_lcerr s).symm.trans h
  rw [frameProcess_of_violation hviolation, lcDecode_of_violation hviolation]

/-! ### What every outcome keeps -/

/-- FRAME.PROCESS writes the stage, the frame registers, the cipher registers, the flags, the record, the record list
and the failure latch alone. -/
theorem frameProcess_eq_update (s : State) :
    frameProcess s =
      { s with
        stage := (frameProcess s).stage, pb := (frameProcess s).pb, raw := (frameProcess s).raw
        crc := (frameProcess s).crc, v0 := (frameProcess s).v0, v1 := (frameProcess s).v1, sum := (frameProcess s).sum
        lcerr := (frameProcess s).lcerr, crcok := (frameProcess s).crcok, record := (frameProcess s).record
        frames := (frameProcess s).frames, failure := (frameProcess s).failure } := by
  obtain h | ⟨h, hr⟩ | ⟨h, hr⟩ := frameProcess_cases s
  · rw [frameProcess_of_violation h]
  · rw [frameProcess_of_mismatch h hr]
  · rw [frameProcess_of_valid h hr]

section
variable (s : State)

@[simp] theorem frameProcess_cfg : (frameProcess s).cfg = s.cfg := by rw [frameProcess_eq_update]
@[simp] theorem frameProcess_sample : (frameProcess s).sample = s.sample := by rw [frameProcess_eq_update]
@[simp] theorem frameProcess_held : (frameProcess s).held = s.held := by rw [frameProcess_eq_update]
@[simp] theorem frameProcess_inbox : (frameProcess s).inbox = s.inbox := by rw [frameProcess_eq_update]
@[simp] theorem frameProcess_navail : (frameProcess s).navail = s.navail := (frameProcess_navail_cur s).1
@[simp] theorem frameProcess_cur : (frameProcess s).cur = s.cur := (frameProcess_navail_cur s).2
@[simp] theorem frameProcess_matched : (frameProcess s).matched = s.matched := by rw [frameProcess_eq_update]
@[simp] theorem frameProcess_symbol : (frameProcess s).symbol = s.symbol := by rw [frameProcess_eq_update]
@[simp] theorem frameProcess_text : (frameProcess s).text = s.text := by rw [frameProcess_eq_update]

end

/-- Settles O52: the update of `frameProcess_eq_update`, whose record list grows on the valid outcome alone. -/
theorem frameProcessFrame : Obligations.FrameProcessFrame := by
  refine fun s => (does_iff_of_exec (exec_frameProcess s)).2 ⟨frameProcess_eq_update s, ?_⟩
  obtain h | ⟨h, hr⟩ | ⟨h, hr⟩ := frameProcess_cases s
  · exact .inl (by rw [frameProcess_of_violation h])
  · exact .inl (by rw [frameProcess_of_mismatch h hr])
  · refine .inr ⟨by rw [frameProcess_of_valid h hr], by rw [frameProcess_of_valid h hr],
      by rw [frameProcess_of_valid h hr], fun k hk => ?_⟩
    rw [(lineCodeError_iff s.win).2 ⟨k, hk⟩] at h
    cases h

/-- The record of a window, if both gates let it pass (R250). -/
def windowRecords (c : Config) (win : BitVec 464) : List Record :=
  if lineCodeError win = false ∧ residue (frameOf win) = 0 then [extractRecord (decryptFrame c (frameOf win))] else []

/-- FRAME.PROCESS appends the record of its window, which depends on the window and the constants alone. -/
@[simp] theorem frameProcess_frames (s : State) :
    (frameProcess s).frames = s.frames ++ windowRecords s.cfg s.win := by
  unfold windowRecords
  obtain h | ⟨h, hr⟩ | ⟨h, hr⟩ := frameProcess_cases s
  · rw [frameProcess_of_violation h, h]
    simp
  · rw [frameProcess_of_mismatch h hr, if_neg fun hpass => hr hpass.2, List.append_nil]
  · rw [frameProcess_of_valid h hr, if_pos ⟨h, hr⟩]

/-- A window gives one record at most. -/
theorem length_windowRecords_le (c : Config) (win : BitVec 464) : (windowRecords c win).length ≤ 1 := by
  unfold windowRecords
  split
  · exact Nat.le_refl 1
  · exact Nat.zero_le 1

/-- The vertical speed of an emitted record lies in the range R33 gives. -/
theorem windowRecords_vsInRange {c : Config} {win : BitVec 464} {r : Record} (hr : r ∈ windowRecords c win) :
    r.vsInRange := by
  unfold windowRecords at hr
  split at hr
  · rw [List.mem_singleton.1 hr, Record.vsInRange, extractRecord, fieldVs_toInt_eq_vsValue]
    exact vsValue_bounds _ _
  · cases hr

end Sys2Proof.Machine

/-! ## DECODE.CALL -/

namespace Sys2Proof.Machine

/-! ### One round of the loop -/

/-- The search of a scan, over the offsets it may test (R134). -/
def nextMatch (s : State) : Option Nat := findMatch s (candidates s) s.cur

/-- A round of the loop that found a match at `i`: its window is copied and processed (R252). -/
def processMatch (i : Nat) (s : State) : State :=
  setStage .scan (frameProcess (syncWindow i { s with found := true, foundAt := i, cur := i + windowBits }))

theorem syncScan_of_match {s : State} {i : Nat} (h : nextMatch s = some i) :
    syncScan s = { s with found := true, foundAt := i, cur := i + windowBits } := by
  obtain ⟨j, hj, hs⟩ | ⟨hnone, -⟩ := syncScan_cases s
  · obtain rfl : j = i := Option.some.inj (hj.symm.trans h)
    exact hs
  · cases hnone.symm.trans h

theorem syncScan_of_no_match {s : State} (h : nextMatch s = none) : syncScan s = { s with found := false } := by
  obtain ⟨j, hj, -⟩ | ⟨-, hs⟩ := syncScan_cases s
  · cases hj.symm.trans h
  · exact hs

/-- A match lies at or after the cursor, and its window ends within the samples (R134). -/
theorem nextMatch_fits {s : State} {i : Nat} (h : nextMatch s = some i) : s.cur ≤ i ∧ i + 464 ≤ s.navail := by
  obtain ⟨hlow, hhigh, -, -⟩ := findMatch_eq_some.1 h
  simp only [candidates, retain] at hhigh
  omega

theorem decodeLoop_of_match {s : State} {i : Nat} (h : nextMatch s = some i) (k : Nat) :
    decodeLoop (k + 1) s = decodeLoop k (processMatch i s) := by
  rw [decodeLoop_succ, syncScan_of_match h, if_pos rfl, processMatch]

theorem decodeLoop_of_no_match {s : State} (h : nextMatch s = none) (k : Nat) :
    decodeLoop (k + 1) s = { s with found := false } := by
  rw [decodeLoop_succ, syncScan_of_no_match h, if_neg Bool.false_ne_true]

/-- What holds at the start of the loop, and is kept by every round and by the scan that ends it, holds at its end. -/
theorem decodeLoop_induction {P : State → Prop}
    (hround : ∀ s i, P s → nextMatch s = some i → P (processMatch i s))
    (hend : ∀ s, P s → P { s with found := false }) (k : Nat) {s : State} (hs : P s) : P (decodeLoop k s) := by
  induction k generalizing s with
  | zero => exact hs
  | succ k ih =>
    cases h : nextMatch s with
    | some i => rw [decodeLoop_of_match h]; exact ih (hround s i hs h)
    | none => rw [decodeLoop_of_no_match h]; exact hend s hs

/-- The window at an offset does not depend on the registers of the search. -/
theorem windowAt_of_search (s : State) (i j c : Nat) :
    windowAt { s with found := true, foundAt := j, cur := c } i = windowAt s i := by
  unfold windowAt sampleBit
  rfl

section
variable (s : State) (i : Nat)

@[simp] theorem processMatch_cfg : (processMatch i s).cfg = s.cfg := by simp [processMatch]
@[simp] theorem processMatch_sample : (processMatch i s).sample = s.sample := by simp [processMatch]
@[simp] theorem processMatch_held : (processMatch i s).held = s.held := by simp [processMatch]
@[simp] theorem processMatch_inbox : (processMatch i s).inbox = s.inbox := by simp [processMatch]
@[simp] theorem processMatch_navail : (processMatch i s).navail = s.navail := by simp [processMatch]
@[simp] theorem processMatch_cur : (processMatch i s).cur = i + 464 := by simp [processMatch]
@[simp] theorem processMatch_stage : (processMatch i s).stage = .scan := rfl
@[simp] theorem processMatch_matched : (processMatch i s).matched = s.matched := by simp [processMatch]
@[simp] theorem processMatch_symbol : (processMatch i s).symbol = s.symbol := by simp [processMatch]
@[simp] theorem processMatch_text : (processMatch i s).text = s.text := by simp [processMatch]
@[simp] theorem processMatch_frames :
    (processMatch i s).frames = s.frames ++ windowRecords s.cfg (windowAt s i) := by
  simp [processMatch, windowAt_of_search]

end

/-! ### What a call keeps -/

/-- What holds of a state of a call on `n` samples that began in `s`: the constants, the samples, the host's side and
the latches no stage writes are those of `s`; the cursor lies within the samples, every record took 464 of them, and
every record has a vertical speed in range (R25, R33, R134, R252). -/
structure CallInv (s : State) (n : Nat) (t : State) : Prop where
  cfg : t.cfg = s.cfg
  sample : t.sample = s.sample
  held : t.held = s.held
  inbox : t.inbox = s.inbox
  matched : t.matched = s.matched
  symbol : t.symbol = s.symbol
  text : t.text = s.text
  navail : t.navail = n
  cur : t.cur ≤ n
  frames : 464 * t.frames.length ≤ t.cur
  inRange : ∀ r ∈ t.frames, r.vsInRange

/-- It holds where a call begins. -/
theorem callInv_enterCall (n : Nat) (s : State) : CallInv s n (enterCall n s) := by
  constructor <;> simp

/-- A round keeps it: the cursor passes the window of at most one new record. -/
theorem callInv_processMatch {s t : State} {n i : Nat} (h : CallInv s n t) (hm : nextMatch t = some i) :
    CallInv s n (processMatch i t) := by
  obtain ⟨hcur, hfits⟩ := nextMatch_fits hm
  have hone := length_windowRecords_le t.cfg (windowAt t i)
  have hframes := h.frames
  have hnavail := h.navail
  constructor
  case cfg => rw [processMatch_cfg, h.cfg]
  case sample => rw [processMatch_sample, h.sample]
  case held => rw [processMatch_held, h.held]
  case inbox => rw [processMatch_inbox, h.inbox]
  case matched => rw [processMatch_matched, h.matched]
  case symbol => rw [processMatch_symbol, h.symbol]
  case text => rw [processMatch_text, h.text]
  case navail => rw [processMatch_navail, hnavail]
  case cur => rw [processMatch_cur]; omega
  case frames => rw [processMatch_frames, processMatch_cur, List.length_append]; omega
  case inRange =>
    intro r hr
    rw [processMatch_frames, List.mem_append] at hr
    exact hr.elim (h.inRange r) windowRecords_vsInRange

/-- It speaks of no register that the ends of a call write. -/
theorem CallInv.of_ends {s t u : State} {n : Nat} (h : CallInv s n t)
    (hu : u = { t with stage := u.stage, consumed := u.consumed, found := u.found, failure := u.failure }) :
    CallInv s n u := by
  obtain ⟨hcfg, hsample, hheld, hinbox, hmatched, hsymbol, htext, hnavail, hcur, hframes, hrange⟩ := h
  rw [hu]
  exact ⟨hcfg, hsample, hheld, hinbox, hmatched, hsymbol, htext, hnavail, hcur, hframes, hrange⟩

/-- The end of a call keeps it. -/
theorem callInv_leaveCall {s t : State} {n : Nat} (h : CallInv s n t) :
    CallInv s n (noFailure (setStage .idle (syncConsume t))) :=
  h.of_ends rfl

/-- It holds when the loop ends. -/
theorem callInv_decodeLoop (k n : Nat) (s : State) : CallInv s n (decodeLoop k (setStage .scan (enterCall n s))) :=
  decodeLoop_induction (P := CallInv s n) (fun _ _ h hm => callInv_processMatch h hm) (fun _ h => h.of_ends rfl) k
    ((callInv_enterCall n s).of_ends rfl)

/-- It holds of what a call answers, starved or not. -/
theorem callInv_of_exec {n : Nat} {s t : State} (h : exec (.decodeCall n) s = .next t) : CallInv s n t := by
  obtain ⟨-, hr⟩ | ⟨-, -, hs⟩ | ⟨-, -, hs⟩ := exec_decodeCall_cases n s
  · cases hr.symm.trans h
  · obtain rfl := Host.Outcome.next.inj (hs.symm.trans h)
    exact (callInv_enterCall n s).of_ends rfl
  · obtain rfl := Host.Outcome.next.inj (hs.symm.trans h)
    exact callInv_leaveCall (callInv_decodeLoop _ n s)

/-- The consumed count of a call is SYNC.CONSUME's, from the count of samples alone (R138, R252). -/
theorem consumed_of_exec {n : Nat} {s t : State} (h : exec (.decodeCall n) s = .next t) :
    t.consumed = if n < 464 then 0 else n - 463 := by
  obtain ⟨-, hr⟩ | ⟨-, -, hs⟩ | ⟨-, -, hs⟩ := exec_decodeCall_cases n s
  · cases hr.symm.trans h
  · obtain rfl := Host.Outcome.next.inj (hs.symm.trans h)
    rfl
  · obtain rfl := Host.Outcome.next.inj (hs.symm.trans h)
    rw [runCall, noFailure_consumed, setStage_consumed, syncConsume_consumed, (callInv_decodeLoop _ n s).navail]

/-- A call on 464 samples or more completes (R252). -/
theorem exec_decodeCall_of_le {n : Nat} {s : State} (hheld : n ≤ s.held) (hn : windowBits ≤ n) :
    exec (.decodeCall n) s = .next (runCall n s) := by
  obtain ⟨hlt, -⟩ | ⟨-, hlt, -⟩ | ⟨-, -, hs⟩ := exec_decodeCall_cases n s
  · omega
  · omega
  · exact hs

/-- Settles O54: what a call keeps, and the count SYNC.CONSUME leaves. -/
theorem decodeCallCompletes : Obligations.DecodeCallCompletes := by
  intro s n hheld hn
  have hexec := exec_decodeCall_of_le hheld hn
  have hinv := callInv_of_exec hexec
  have hconsumed := consumed_of_exec hexec
  have hcur := hinv.cur
  have hframes := hinv.frames
  refine (does_iff_of_exec hexec).2 ⟨hinv.navail, ?_, ?_, hcur, stage_of_exec_decodeCall hexec, rfl, hinv.cfg,
    hinv.sample, hinv.held, hinv.inbox, hinv.matched, hinv.symbol, hinv.text, fun a => by rw [hinv.sample]⟩
  · rw [hconsumed, if_neg (Nat.not_lt.2 hn)]
    omega
  · omega

/-! ### The invariant of a state -/

/-- Settles O9: after reset nothing is presented, nothing counted and nothing emitted. -/
theorem resetMeetsInvariant : Obligations.ResetMeetsInvariant :=
  ⟨rfl, fun _ h => absurd h List.not_mem_nil, Nat.le_refl 0, Nat.le_refl 0, Nat.le_refl 0,
    fun _ h => absurd h List.not_mem_nil⟩

/-- A call on a presented buffer leaves the invariant, whatever held before it. -/
theorem inv_of_exec_present {s t : State} {buf : List Byte} {rest : List (List Byte)}
    (h : exec (.decodeCall buf.length) (present buf rest s) = .next t) : Inv t := by
  have hinv := callInv_of_exec h
  have hsample : t.sample = Memory.load 0 buf := hinv.sample
  have hheld : t.held = buf.length := hinv.held
  constructor
  case canonical => rw [hsample]; exact load_wf buf 0
  case inBuffer =>
    intro c hc
    rw [hsample] at hc
    obtain ⟨-, hlt, -⟩ := load_bounds buf 0 c hc
    rwa [hheld, ← Nat.zero_add buf.length]
  case navailHeld => rw [hinv.navail, hheld]
  case curNavail => rw [hinv.navail]; exact hinv.cur
  case consumedNavail =>
    rw [consumed_of_exec h, hinv.navail]
    split
    · exact Nat.zero_le _
    · exact Nat.sub_le _ _
  case framesInRange => exact hinv.inRange

/-- Settles O10: a step is a call on a presented buffer, which leaves the invariant, or a wait, which keeps it. -/
theorem stepKeepsInvariant : Obligations.StepKeepsInvariant := by
  intro s t hinv hstep
  obtain ⟨buf, rest, -, hcall⟩ | ⟨-, hwait⟩ := step_cases s
  · exact inv_of_exec_present (hcall.symm.trans hstep)
  · rw [← Host.Outcome.next.inj (hwait.symm.trans hstep)]
    exact hinv

/-- Settles O8: the values read off the state after reset and the constants. -/
theorem resetState : Obligations.ResetState := ⟨rfl, rfl, rfl, rfl, rfl, rfl, rfl, rfl, rfl, rfl, rfl⟩

/-! ### The presented buffer -/

/-- A call on the whole of a presented buffer completes. -/
theorem exec_decodeCall_present (buf : List Byte) (rest : List (List Byte)) (s : State) :
    ∃ t, exec (.decodeCall buf.length) (present buf rest s) = .next t := by
  obtain ⟨hlt, -⟩ | ⟨-, -, hs⟩ | ⟨-, -, hs⟩ := exec_decodeCall_cases buf.length (present buf rest s)
  · exact absurd hlt (Nat.lt_irrefl _)
  · exact ⟨_, hs⟩
  · exact ⟨_, hs⟩

/-- Settles O2: the call on the next buffer, whose samples are those read and whose count the call never refuses. -/
theorem stepDecodesTheNextBuffer : Obligations.StepDecodesTheNextBuffer := by
  intro s buf rest hinbox
  have hstep := step_of_cons hinbox
  refine ⟨hstep, hstep ▸ exec_decodeCall_present buf rest s, rfl, fun a => ?_, load_wf buf 0⟩
  have hread := read_load buf 0 a
  rwa [Nat.zero_add] at hread

/-! ### Calls that find nothing -/

/-- Settles O53: below 464 samples the call is its entry, SYNC.CONSUME and the failure; past the buffer it is
refused. -/
theorem starvedCallConsumesNothing : Obligations.StarvedCallConsumesNothing := by
  refine ⟨rfl, fun s n hheld hn => ?_, fun s n hlt => ?_⟩
  · obtain ⟨hlt, -⟩ | ⟨-, -, hs⟩ | ⟨-, hle, -⟩ := exec_decodeCall_cases n s
    · omega
    · rw [hs]
      congr 1
      ext <;> simp [starvedCall, hn]
    · exact absurd hn (Nat.not_lt.2 hle)
  · obtain ⟨-, hr⟩ | ⟨hle, -⟩ | ⟨hle, -⟩ := exec_decodeCall_cases n s
    · exact hr
    · omega
    · omega

/-- Settles O55: the only scan of the call finds nothing, and the call ends with SYNC.CONSUME. -/
theorem noMatchIsNotAFailure : Obligations.NoMatchIsNotAFailure := by
  intro s n hheld hn hno
  have hnone : nextMatch (setStage .scan (enterCall n s)) = none := by
    refine findMatch_eq_none.2 fun i _ hi => ?_
    refine (matchAt_eq_false_iff _ i).2 (hno i ?_)
    have hlast : i < 0 + (n - 463 - 0) := hi
    omega
  rw [exec_decodeCall_of_le hheld hn, runCall, decodeLoop_of_no_match hnone]
  refine congrArg Host.Outcome.next ?_
  ext <;> simp [Nat.not_lt.2 hn]

end Sys2Proof.Machine

/-! ## The loop and the stages of a call -/

namespace Sys2Proof.Machine

/-! ### Rounds -/

/-- A bound on the windows still to be found: the cursor leaves room for that many (R134). -/
def windowsLeft (s : State) : Nat := (s.navail - s.cur) / 464

/-- Every match uses up the room of a window. -/
theorem windowsLeft_processMatch {s : State} {i : Nat} (h : nextMatch s = some i) :
    windowsLeft (processMatch i s) + 1 ≤ windowsLeft s := by
  obtain ⟨hcur, hfits⟩ := nextMatch_fits h
  rw [windowsLeft, windowsLeft, processMatch_navail, processMatch_cur]
  omega

/-- With a round for every window left and one more, any number of rounds ends in the same state. -/
theorem decodeLoop_eq_of_windowsLeft {k m : Nat} {s : State} (hk : windowsLeft s < k) (hm : windowsLeft s < m) :
    decodeLoop k s = decodeLoop m s := by
  induction k generalizing m s with
  | zero => omega
  | succ k ih =>
    obtain ⟨m, rfl⟩ : ∃ m', m = m' + 1 := ⟨m - 1, by omega⟩
    cases h : nextMatch s with
    | some i =>
      have hless := windowsLeft_processMatch h
      rw [decodeLoop_of_match h, decodeLoop_of_match h]
      exact ih (by omega) (by omega)
    | none => rw [decodeLoop_of_no_match h, decodeLoop_of_no_match h]

/-- Settles O56: a call starts with room for `n / 464` windows. -/
theorem decodeLoopHasEnoughRounds : Obligations.DecodeLoopHasEnoughRounds := by
  intro s n k hk
  have hleft : windowsLeft (setStage .scan (enterCall n s)) = n / 464 := rfl
  exact decodeLoop_eq_of_windowsLeft (by omega) (by omega)

/-! ### One transition of the stage order -/

theorem stageStep_of_idle {s : State} (hs : s.stage = .idle) : stageStep s = s := by
  rw [stageStep, hs]

/-- `SCAN -> LC` (R30). -/
theorem stageStep_of_match {s : State} {i : Nat} (hs : s.stage = .scan) (h : nextMatch s = some i) :
    stageStep s =
      setStage .lc (syncWindow i { s with found := true, foundAt := i, cur := i + windowBits }) := by
  simp only [stageStep, hs, syncScan_of_match h, if_pos]

/-- `SCAN -> IDLE` (R30). -/
theorem stageStep_of_no_match {s : State} (hs : s.stage = .scan) (h : nextMatch s = none) :
    stageStep s = noFailure (setStage .idle (syncConsume { s with found := false })) := by
  simp only [stageStep, hs, syncScan_of_no_match h, Bool.false_eq_true, if_false]

/-- `LC -> SCAN` (R30). -/
theorem stageStep_of_violation {s : State} (hs : s.stage = .lc) (h : lineCodeError s.win = true) :
    stageStep s = setStage .scan (raise .lineCodeViolation (lcValidate s)) := by
  rw [stageStep, hs]
  exact if_pos h

/-- `LC -> CRC` (R30). -/
theorem stageStep_of_legal {s : State} (hs : s.stage = .lc) (h : lineCodeError s.win = false) :
    stageStep s = setStage .crc (lcPack (lcCollapse (lcValidate s))) := by
  rw [stageStep, hs]
  exact if_neg (Bool.eq_false_iff.1 h)

/-- `CRC -> DEC_A` when the residue is zero, else `CRC -> SCAN` (R30). -/
theorem stageStep_of_crc {s : State} (hs : s.stage = .crc) :
    stageStep s =
      if residueIsZero (residue s.raw) then setStage .decA (crcCheck s)
      else setStage .scan (raise .checksumMismatch (crcCheck s)) := by
  rw [stageStep, hs]
  rfl

/-- `DEC_A -> DEC_B` (R30). -/
theorem stageStep_of_decA {s : State} (hs : s.stage = .decA) :
    stageStep s = setStage .decB (cipherBlock (regionA s.cfg) .a s) := by
  rw [stageStep, hs]

/-- `DEC_B -> FX` (R30). -/
theorem stageStep_of_decB {s : State} (hs : s.stage = .decB) :
    stageStep s = setStage .fx (cipherBlock (regionB s.cfg) .b s) := by
  rw [stageStep, hs]

/-- `FX -> SCAN` (R30). -/
theorem stageStep_of_fx {s : State} (hs : s.stage = .fx) :
    stageStep s = setStage .scan (noFailure (emit (fxFrame s))) := by
  rw [stageStep, hs]

/-- Settles O58: the transitions out of each stage. -/
theorem stageOrderIsFixed : Obligations.StageOrderIsFixed := by
  refine fun s =>
    ⟨stageStep_of_idle, fun hs => ?_, fun hs => ?_, fun hs => ?_, fun hs => ?_, fun hs => ?_, fun hs => ?_⟩
  · cases h : nextMatch s with
    | some i => rw [stageStep_of_match hs h]; exact .inl ⟨rfl, rfl⟩
    | none => rw [stageStep_of_no_match hs h]; exact .inr ⟨rfl, rfl⟩
  · cases h : lineCodeError s.win with
    | false => rw [stageStep_of_legal hs h]; exact .inl ⟨rfl, h⟩
    | true => rw [stageStep_of_violation hs h]; exact .inr ⟨rfl, h⟩
  · rw [stageStep_of_crc hs]
    cases h : residueIsZero (residue s.raw) with
    | true => rw [if_pos rfl]; exact .inl ⟨rfl, h⟩
    | false => rw [if_neg Bool.false_ne_true]; exact .inr ⟨rfl, h⟩
  · rw [stageStep_of_decA hs, setStage_stage]
  · rw [stageStep_of_decB hs, setStage_stage]
  · rw [stageStep_of_fx hs, setStage_stage]

/-! ### The transitions of one window -/

theorem stageRun_add (j k : Nat) (s : State) : stageRun (j + k) s = stageRun k (stageRun j s) := by
  induction j generalizing s with
  | zero => rw [Nat.zero_add, stageRun]
  | succ j ih => rw [Nat.succ_add, stageRun, ih, stageRun]

/-- Behind the checksum gate the engine goes through the cipher and extract stages of FRAME.PROCESS (R30, R250). -/
theorem stageRun_three_of_decA (s : State) :
    stageRun 3 (setStage .decA s) = setStage .scan (decryptAndEmit s) := by
  have hdecA : stageStep (setStage .decA s) =
      setStage .decB (cipherBlock (regionA s.cfg) .a (setStage .decA s)) := stageStep_of_decA rfl
  rw [stageRun, hdecA, stageRun, stageStep_of_decB rfl, stageRun, stageStep_of_fx rfl]
  rfl

/-- From `LC` the engine goes back to `SCAN` where FRAME.PROCESS ends, in five transitions at most (R30, R250). -/
theorem exists_stageRun_frameProcess (s : State) :
    ∃ k, k ≤ 5 ∧ stageRun k (setStage .lc s) = setStage .scan (frameProcess s) := by
  have hstage : (setStage .lc s).stage = .lc := rfl
  cases h : lineCodeError s.win with
  | true =>
    refine ⟨1, by decide, ?_⟩
    simp only [stageRun]
    rw [stageStep_of_violation hstage h, frameProcess_of_violation h]
    ext <;> simp [h]
  | false =>
    have hcrc : (setStage .crc (lcPack (lcCollapse (lcValidate (setStage .lc s))))).raw = frameOf s.win := by
      unfold frameOf; rfl
    rw [frameProcess_of_legal h]
    cases hr : residueIsZero (residue (frameOf s.win)) with
    | false =>
      refine ⟨2, by decide, ?_⟩
      simp only [stageRun]
      rw [stageStep_of_legal hstage h, stageStep_of_crc rfl, hcrc, hr]
      rfl
    | true =>
      refine ⟨2 + 3, by decide, ?_⟩
      rw [stageRun_add, if_pos rfl, ← stageRun_three_of_decA]
      congr 1
      simp only [stageRun]
      rw [stageStep_of_legal hstage h, stageStep_of_crc rfl, hcrc, hr]
      rfl

/-! ### The transitions of a call -/

/-- From `SCAN` the engine reaches `IDLE` where the loop and the end of a call leave the state, with six transitions at
most for every window left and one more (R30, R252). -/
theorem exists_stageRun_decodeLoop {k : Nat} {s : State} (hs : s.stage = .scan) (hk : windowsLeft s < k) :
    ∃ j, j ≤ 6 * windowsLeft s + 1 ∧
      stageRun j s = noFailure (setStage .idle (syncConsume (decodeLoop k s))) := by
  induction k generalizing s with
  | zero => omega
  | succ k ih =>
    cases h : nextMatch s with
    | none =>
      refine ⟨1, by omega, ?_⟩
      simp only [stageRun]
      rw [stageStep_of_no_match hs h, decodeLoop_of_no_match h]
    | some i =>
      have hless := windowsLeft_processMatch h
      obtain ⟨a, ha, hwindow⟩ := exists_stageRun_frameProcess
        (syncWindow i { s with found := true, foundAt := i, cur := i + windowBits })
      obtain ⟨b, hb, hrest⟩ := ih (processMatch_stage s i) (by omega)
      refine ⟨1 + a + b, by omega, ?_⟩
      rw [stageRun_add, stageRun_add, stageRun, stageRun, stageStep_of_match hs h, hwindow, decodeLoop_of_match h]
      exact hrest

/-- Settles O57: the call is its loop from `SCAN`, with room for `n / 464` windows. -/
theorem callIsTheStageOrder : Obligations.CallIsTheStageOrder := by
  intro s n hheld hn
  have hstart : setStage .scan (enterCall n s) = { s with navail := n, frames := [], cur := 0, stage := .scan } := rfl
  obtain ⟨k, hk, hrun⟩ := exists_stageRun_decodeLoop (k := n / windowBits + 1)
    (s := setStage .scan (enterCall n s)) rfl (Nat.lt_succ_self _)
  refine ⟨k, hk, ?_⟩
  rw [exec_decodeCall_of_le hheld hn, runCall, ← hstart, hrun]

/-! ### What the records of a call depend on -/

/-- Two states of calls on `n` samples that agree in the constants, the cursor, the records and bit 0 of every sample
below `n` (R60, R253). -/
structure SameInput (n : Nat) (s u : State) : Prop where
  cfg : s.cfg = u.cfg
  navailLeft : s.navail = n
  navailRight : u.navail = n
  cur : s.cur = u.cur
  frames : s.frames = u.frames
  bits : ∀ a, a < n → sampleBit s a = sampleBit u a

/-- The compare reads 48 samples. -/
theorem matchAt_congr {s u : State} {i : Nat} (hcfg : s.cfg = u.cfg)
    (hbits : ∀ a, a < i + 48 → sampleBit s a = sampleBit u a) : matchAt s i = matchAt u i := by
  unfold matchAt
  rw [hcfg]
  exact congrArg _ (funext fun k => by rw [hbits (i + k.val) (by omega)])

/-- The search depends on the compare alone. -/
theorem findMatch_congr {s u : State} {count i : Nat}
    (h : ∀ j, i ≤ j → j < i + count → matchAt s j = matchAt u j) :
    findMatch s count i = findMatch u count i := by
  induction count generalizing i with
  | zero => rfl
  | succ count ih =>
    rw [findMatch, findMatch, h i (Nat.le_refl i) (by omega), ih fun j hlow hhigh => h j (by omega) (by omega)]

/-- The window reads 464 samples. -/
theorem windowAt_congr {s u : State} {i : Nat} (hbits : ∀ a, a < i + 464 → sampleBit s a = sampleBit u a) :
    windowAt s i = windowAt u i := by
  ext k hk
  rw [windowAt_getElem s i k hk, windowAt_getElem u i k hk, hbits (i + k) (by omega)]

/-- The bits of the samples depend on the sample space alone. -/
theorem sampleBit_congr {s t : State} (h : t.sample = s.sample) (a : Nat) : sampleBit t a = sampleBit s a := by
  rw [sampleBit_eq, sampleBit_eq, h]

/-- Both find the same match. -/
theorem SameInput.nextMatch_eq {n : Nat} {s u : State} (h : SameInput n s u) : nextMatch s = nextMatch u := by
  have hcandidates : candidates s = candidates u := by
    rw [candidates, candidates, h.navailLeft, h.navailRight, h.cur]
  rw [nextMatch, nextMatch, ← hcandidates, ← h.cur]
  refine findMatch_congr fun j _ hj => matchAt_congr h.cfg fun a ha => h.bits a ?_
  simp only [candidates, retain, h.navailLeft] at hj
  omega

/-- Both process the same window. -/
theorem SameInput.processMatch {n i : Nat} {s u : State} (h : SameInput n s u) (hm : nextMatch s = some i) :
    SameInput n (processMatch i s) (processMatch i u) := by
  obtain ⟨-, hfits⟩ := nextMatch_fits hm
  rw [h.navailLeft] at hfits
  have hwindow : windowAt s i = windowAt u i := windowAt_congr fun a ha => h.bits a (by omega)
  constructor
  case cfg => rw [processMatch_cfg, processMatch_cfg, h.cfg]
  case navailLeft => rw [processMatch_navail, h.navailLeft]
  case navailRight => rw [processMatch_navail, h.navailRight]
  case cur => rw [processMatch_cur, processMatch_cur]
  case frames => rw [processMatch_frames, processMatch_frames, h.frames, h.cfg, hwindow]
  case bits =>
    intro a ha
    rw [sampleBit_congr (processMatch_sample s i), sampleBit_congr (processMatch_sample u i), h.bits a ha]

/-- Both loops emit the same records. -/
theorem SameInput.decodeLoop_frames {n : Nat} {s u : State} (h : SameInput n s u) (k : Nat) :
    (decodeLoop k s).frames = (decodeLoop k u).frames := by
  induction k generalizing s u with
  | zero => exact h.frames
  | succ k ih =>
    cases hm : nextMatch s with
    | none =>
      rw [decodeLoop_of_no_match hm, decodeLoop_of_no_match (h.nextMatch_eq.symm.trans hm)]
      exact h.frames
    | some i =>
      rw [decodeLoop_of_match hm, decodeLoop_of_match (h.nextMatch_eq.symm.trans hm)]
      exact ih (h.processMatch hm)

/-- Two calls on `n` samples begin alike when the constants and the bits of the samples agree. -/
theorem sameInput_enterCall {n : Nat} {s u : State} (hcfg : s.cfg = u.cfg)
    (hbits : ∀ a, a < n → sampleBit s a = sampleBit u a) :
    SameInput n (setStage .scan (enterCall n s)) (setStage .scan (enterCall n u)) := by
  refine ⟨hcfg, rfl, rfl, rfl, rfl, fun a ha => ?_⟩
  have hentry (t : State) : (setStage .scan (enterCall n t)).sample = t.sample := rfl
  rw [sampleBit_congr (hentry s), sampleBit_congr (hentry u), hbits a ha]

/-- What a call on presented samples answers, starved or not, by its records. -/
theorem exists_exec_decodeCall {n : Nat} {s : State} (hheld : n ≤ s.held) :
    ∃ t, exec (.decodeCall n) s = .next t ∧
      t.frames = if n < windowBits then []
        else (decodeLoop (n / windowBits + 1) (setStage .scan (enterCall n s))).frames := by
  obtain ⟨hlt, -⟩ | ⟨-, hn, hs⟩ | ⟨-, hn, hs⟩ := exec_decodeCall_cases n s
  · omega
  · exact ⟨_, hs, (if_pos hn).symm⟩
  · exact ⟨_, hs, by
      rw [if_neg (Nat.not_lt.2 hn), runCall, noFailure_frames, setStage_frames, syncConsume_frames]⟩

/-- Settles O59: the two loops find the same matches and process the same windows, and the count is that of the samples
alone. -/
theorem callDependsOnlyOnSampleBits : Obligations.CallDependsOnlyOnSampleBits := by
  intro s u n hs hu hcfg hbits
  obtain ⟨t, ht, htframes⟩ := exists_exec_decodeCall hs
  obtain ⟨v, hv, hvframes⟩ := exists_exec_decodeCall hu
  rw [does_iff_of_exec ht, does_iff_of_exec hv, consumed_of_exec ht, consumed_of_exec hv, htframes, hvframes,
    (sameInput_enterCall hcfg hbits).decodeLoop_frames]
  exact ⟨rfl, rfl⟩

end Sys2Proof.Machine

/-! ## What the operations write, and which of them stop -/

namespace Sys2Proof.Machine

/-! ### The operations that can stop -/

/-- SYNC.MATCH completes when its 48 samples lie below `NAVAIL`, else it stops (R61, R131). -/
theorem exec_syncMatch_cases (k : Nat) (s : State) :
    (∃ _ : k + 48 ≤ s.navail, exec (.syncMatch k) s = .next { s with matched := matchAt s k }) ∨
    (s.navail < k + 48 ∧ exec (.syncMatch k) s = .fault .sampleBeyondCount) := by
  have harm : exec (.syncMatch k) s = execSyncMatch k s := rfl
  rw [harm, execSyncMatch]
  by_cases h : k + 48 ≤ s.navail
  · exact .inl ⟨h, if_pos h⟩
  · exact .inr ⟨Nat.lt_of_not_le h, if_neg h⟩

/-- SYNC.WINDOW completes when its 464 samples lie below `NAVAIL`, else it stops (R61, R136). -/
theorem exec_syncWindow_cases (k : Nat) (s : State) :
    (∃ _ : k + 464 ≤ s.navail, exec (.syncWindow k) s = .next (syncWindow k s)) ∨
    (s.navail < k + 464 ∧ exec (.syncWindow k) s = .fault .sampleBeyondCount) := by
  have harm : exec (.syncWindow k) s = execSyncWindow k s := rfl
  rw [harm, execSyncWindow]
  by_cases h : k + 464 ≤ s.navail
  · exact .inl ⟨h, if_pos h⟩
  · exact .inr ⟨Nat.lt_of_not_le h, if_neg h⟩

/-- The operations on a region complete inside the frame buffer, and stop elsewhere (R194). -/
theorem exec_xteaUnpack_cases (o : Nat) (s : State) :
    (∃ h : o ≤ 21, exec (.xteaUnpack o) s = .next (xteaUnpack ⟨o, Nat.lt_succ_of_le h⟩ s)) ∨
    (21 < o ∧ exec (.xteaUnpack o) s = .fault .rawBeyondFrame) :=
  onRegion_cases o xteaUnpack s

/-- See `exec_xteaUnpack_cases`. -/
theorem exec_xteaWb_cases (o : Nat) (s : State) :
    (∃ h : o ≤ 21, exec (.xteaWb o) s = .next (xteaWb ⟨o, Nat.lt_succ_of_le h⟩ s)) ∨
    (21 < o ∧ exec (.xteaWb o) s = .fault .rawBeyondFrame) :=
  onRegion_cases o xteaWb s

/-- See `exec_xteaUnpack_cases`. -/
theorem exec_cipherBlock_cases (o : Nat) (key : KeySel) (s : State) :
    (∃ h : o ≤ 21, exec (.cipherBlock o key) s = .next (cipherBlock ⟨o, Nat.lt_succ_of_le h⟩ key s)) ∨
    (21 < o ∧ exec (.cipherBlock o key) s = .fault .rawBeyondFrame) :=
  onRegion_cases o (fun p => cipherBlock p key) s

theorem next_ne_fault {r : Result} {u : State} {f : Fault} (hr : r = .next u) : r ≠ .fault f := by
  rw [hr]; nofun

theorem next_ne_refused {r : Result} {u : State} {f : Refusal} (hr : r = .next u) : r ≠ .refused f := by
  rw [hr]; nofun

/-- Settles O14: the cases of the operations that can stop; every other arm answers a next state. -/
theorem onlyTheseOperationsStop : Obligations.OnlyTheseOperationsStop := by
  intro i s
  cases i
  case decodeCall n =>
    obtain ⟨hlt, h⟩ | ⟨hle, -, h⟩ | ⟨hle, -, h⟩ := exec_decodeCall_cases n s
    · simp [h, hlt, eq_comm]
    · simp [h, hle]
    · simp [h, hle]
  case syncMatch k => obtain ⟨hk, h⟩ | ⟨hk, h⟩ := exec_syncMatch_cases k s <;> simp [h, hk]
  case syncWindow k => obtain ⟨hk, h⟩ | ⟨hk, h⟩ := exec_syncWindow_cases k s <;> simp [h, hk]
  case xteaUnpack o => obtain ⟨ho, h⟩ | ⟨ho, h⟩ := exec_xteaUnpack_cases o s <;> simp [h, ho]
  case xteaWb o => obtain ⟨ho, h⟩ | ⟨ho, h⟩ := exec_xteaWb_cases o s <;> simp [h, ho]
  case cipherBlock o key => obtain ⟨ho, h⟩ | ⟨ho, h⟩ := exec_cipherBlock_cases o key s <;> simp [h, ho]
  all_goals
    exact ⟨iff_of_false (next_ne_fault rfl) (by simp), iff_of_false (next_ne_fault rfl) (by simp),
      fun r => iff_of_false (next_ne_refused rfl) (by simp)⟩

/-! ### What an operation may write -/

/-- What the operation `i` left of `s`: the constants, the samples and the host's side; and the cursor, the sample
count, the flags and the record list unless `i` is one of those that write them (R22, R25, R27, R34, R62). -/
structure Wrote (i : Instr) (s t : State) : Prop where
  cfg : t.cfg = s.cfg
  sample : t.sample = s.sample
  held : t.held = s.held
  inbox : t.inbox = s.inbox
  cur : t.cur = s.cur ∨ i = .syncScan ∨ ∃ n, i = .decodeCall n
  navail : t.navail = s.navail ∨ ∃ n, i = .decodeCall n
  lcerr : t.lcerr = s.lcerr ∨ i = .lcValidate ∨ i = .lcDecode ∨ i = .frameProcess ∨ ∃ n, i = .decodeCall n
  crcok : t.crcok = s.crcok ∨ i = .crcCheck ∨ i = .frameProcess ∨ ∃ n, i = .decodeCall n
  frames : t.frames = s.frames ∨ i = .frameProcess ∨ ∃ n, i = .decodeCall n

/-- The state is `s` but for registers that any operation may write. -/
structure Quiet (s t : State) : Prop where
  cfg : t.cfg = s.cfg
  sample : t.sample = s.sample
  held : t.held = s.held
  inbox : t.inbox = s.inbox
  cur : t.cur = s.cur
  navail : t.navail = s.navail
  lcerr : t.lcerr = s.lcerr
  crcok : t.crcok = s.crcok
  frames : t.frames = s.frames

theorem Quiet.wrote {i : Instr} {s t : State} (h : Quiet s t) : Wrote i s t :=
  ⟨h.cfg, h.sample, h.held, h.inbox, .inl h.cur, .inl h.navail, .inl h.lcerr, .inl h.crcok, .inl h.frames⟩

/-- What an arm says of its answer holds of the state answered. -/
theorem of_next_eq {P : State → Prop} {r : Result} {t u : State} (h : r = .next t) (hr : r = .next u) (hu : P u) :
    P t := by
  rwa [← Host.Outcome.next.inj (hr.symm.trans h)]

/-- The same of an operation that can stop, when it did not. -/
theorem of_next_or_fault {P : State → Prop} {r : Result} {t : State} {f : Fault} {a b : Prop} {u : a → State}
    (hcases : (∃ h : a, r = .next (u h)) ∨ (b ∧ r = .fault f)) (h : r = .next t) (hu : ∀ h, P (u h)) : P t := by
  obtain ⟨ha, hr⟩ | ⟨-, hr⟩ := hcases
  · exact of_next_eq h hr (hu ha)
  · cases hr.symm.trans h

/-- A scan writes its results and the cursor alone. -/
theorem syncScan_eq_update (s : State) :
    syncScan s =
      { s with found := (syncScan s).found, foundAt := (syncScan s).foundAt, cur := (syncScan s).cur } := by
  obtain ⟨i, -, hs⟩ | ⟨-, hs⟩ := syncScan_cases s <;> rw [hs]

/-- LC.DECODE writes its flag, the payload bits, the frame buffer and the failure latch alone. -/
theorem lcDecode_eq_update (s : State) :
    lcDecode s =
      { s with
        lcerr := (lcDecode s).lcerr, pb := (lcDecode s).pb, raw := (lcDecode s).raw
        failure := (lcDecode s).failure } := by
  cases h : lineCodeError s.win with
  | false => rw [lcDecode_of_legal h]
  | true => rw [lcDecode_of_violation h]

/-- What every operation that completes left. -/
theorem exec_wrote {i : Instr} {s t : State} (h : exec i s = .next t) : Wrote i s t := by
  cases i
  case decodeCall n =>
    have hinv := callInv_of_exec h
    exact ⟨hinv.cfg, hinv.sample, hinv.held, hinv.inbox, .inr (.inr ⟨n, rfl⟩), .inr ⟨n, rfl⟩,
      .inr (.inr (.inr (.inr ⟨n, rfl⟩))), .inr (.inr (.inr ⟨n, rfl⟩)), .inr (.inr ⟨n, rfl⟩)⟩
  case frameProcess =>
    refine of_next_eq h (exec_frameProcess s) ?_
    rw [frameProcess_eq_update]
    exact ⟨rfl, rfl, rfl, rfl, .inl rfl, .inl rfl, .inr (.inr (.inr (.inl rfl))), .inr (.inr (.inl rfl)),
      .inr (.inl rfl)⟩
  case syncScan =>
    refine of_next_eq h rfl (u := syncScan s) ?_
    rw [syncScan_eq_update]
    exact ⟨rfl, rfl, rfl, rfl, .inr (.inl rfl), .inl rfl, .inl rfl, .inl rfl, .inl rfl⟩
  case lcValidate =>
    exact of_next_eq h (exec_lcValidate s)
      ⟨rfl, rfl, rfl, rfl, .inl rfl, .inl rfl, .inr (.inl rfl), .inl rfl, .inl rfl⟩
  case lcDecode =>
    refine of_next_eq h (exec_lcDecode s) ?_
    rw [lcDecode_eq_update]
    exact ⟨rfl, rfl, rfl, rfl, .inl rfl, .inl rfl, .inr (.inr (.inl rfl)), .inl rfl, .inl rfl⟩
  case crcCheck =>
    exact of_next_eq h (exec_crcCheck s)
      ⟨rfl, rfl, rfl, rfl, .inl rfl, .inl rfl, .inl rfl, .inr (.inl rfl), .inl rfl⟩
  case cipherFrame =>
    refine of_next_eq h (exec_cipherFrame s) ?_
    rw [cipherFrame_eq]
    exact Quiet.wrote ⟨rfl, rfl, rfl, rfl, rfl, rfl, rfl, rfl, rfl⟩
  case syncMatch k =>
    exact of_next_or_fault (exec_syncMatch_cases k s) h fun _ =>
      Quiet.wrote ⟨rfl, rfl, rfl, rfl, rfl, rfl, rfl, rfl, rfl⟩
  case syncWindow k =>
    exact of_next_or_fault (exec_syncWindow_cases k s) h fun _ =>
      Quiet.wrote ⟨rfl, rfl, rfl, rfl, rfl, rfl, rfl, rfl, rfl⟩
  case xteaUnpack o =>
    exact of_next_or_fault (exec_xteaUnpack_cases o s) h fun _ =>
      Quiet.wrote ⟨rfl, rfl, rfl, rfl, rfl, rfl, rfl, rfl, rfl⟩
  case xteaWb o =>
    exact of_next_or_fault (exec_xteaWb_cases o s) h fun _ =>
      Quiet.wrote ⟨rfl, rfl, rfl, rfl, rfl, rfl, rfl, rfl, rfl⟩
  case cipherBlock o key =>
    exact of_next_or_fault (exec_cipherBlock_cases o key s) h fun _ =>
      Quiet.wrote ⟨rfl, rfl, rfl, rfl, rfl, rfl, rfl, rfl, rfl⟩
  all_goals exact of_next_eq h rfl (Quiet.wrote ⟨rfl, rfl, rfl, rfl, rfl, rfl, rfl, rfl, rfl⟩)

/-- Settles O11: no operation is among the writers of these. -/
theorem noOperationWritesConstantsOrSamples : Obligations.NoOperationWritesConstantsOrSamples := by
  intro i s t h
  have hw := exec_wrote h
  exact ⟨hw.cfg, hw.sample, hw.held, hw.inbox, fun a => by rw [hw.sample]⟩

/-- Settles O12: a cursor or a count that changed was written by one of its writers. -/
theorem onlyScanAndCallMoveTheCursor : Obligations.OnlyScanAndCallMoveTheCursor :=
  fun _ _ _ h => ⟨(exec_wrote h).cur.resolve_left, (exec_wrote h).navail.resolve_left⟩

/-- Settles O13: a flag or a list that changed was written by one of its writers. -/
theorem onlyNamedOperationsWriteFlagsAndFrames : Obligations.OnlyNamedOperationsWriteFlagsAndFrames :=
  fun _ _ _ h =>
    ⟨(exec_wrote h).lcerr.resolve_left, (exec_wrote h).crcok.resolve_left, (exec_wrote h).frames.resolve_left⟩

end Sys2Proof.Machine

/-! ## The synchronizer's compare and scan -/

namespace Sys2Proof.Machine

/-- SYNC.SCAN completes from every state (R134). -/
theorem exec_syncScan (s : State) : exec .syncScan s = .next (syncScan s) := rfl

/-- SYNC.MATCH completes when its 48 samples lie below `NAVAIL` (R131). -/
theorem exec_syncMatch_of_fits {s : State} {i : Nat} (hfits : i + 48 ≤ s.navail) :
    exec (.syncMatch i) s = .next { s with matched := matchAt s i } :=
  if_pos hfits

/-- Settles O15: the compare, sample by sample, is the pattern bit by bit. -/
theorem syncMatchComparesFortyEightSamples : Obligations.SyncMatchComparesFortyEightSamples :=
  ⟨rfl, fun s i hfits => (does_iff_of_exec (exec_syncMatch_of_fits hfits)).2 ⟨rfl, matchAt_iff s i⟩⟩

/-- Settles O16: the search answers the first match of its range, which is that of the windows that fit. -/
theorem syncScanFindsTheFirstMatch : Obligations.SyncScanFindsTheFirstMatch := by
  refine ⟨rfl, fun s => (does_iff_of_exec (exec_syncScan s)).2 ⟨syncScan_eq_update s, ?_⟩⟩
  cases h : nextMatch s with
  | some i =>
    obtain ⟨hcur, hfits⟩ := nextMatch_fits h
    obtain ⟨-, -, hmatch, hfirst⟩ := findMatch_eq_some.1 h
    rw [syncScan_of_match h]
    exact .inl ⟨rfl, hcur, hfits, (matchAt_iff s i).1 hmatch,
      fun j hlow hhigh => (matchAt_eq_false_iff s j).1 (hfirst j hlow hhigh), rfl⟩
  | none =>
    rw [syncScan_of_no_match h]
    refine .inr ⟨rfl, rfl, rfl, fun j hlow hfits => (matchAt_eq_false_iff s j).1 ?_⟩
    refine findMatch_eq_none.1 h j hlow ?_
    simp only [candidates, retain]
    omega

/-- Settles O18: the first 48 bits of the window are the samples of the match. -/
theorem matchedWindowBeginsWithThePattern : Obligations.MatchedWindowBeginsWithThePattern := by
  refine fun s i hfits hpattern => (does_iff_of_exec (exec_syncWindow_of_fits hfits)).2 fun k => ?_
  obtain ⟨heven, hodd⟩ := hpattern k
  have hfirst := (syncWindow_win_getElem s i ⟨2 * k.val, by omega⟩).trans heven
  have hsecond := (syncWindow_win_getElem s i ⟨2 * k.val + 1, by omega⟩).trans hodd
  exact ⟨hfirst, hsecond.trans (congrArg not hfirst.symm)⟩

end Sys2Proof.Machine

/-! ## The line code and its inverse -/

namespace Sys2Proof.Machine

/-- LC.COLLAPSE completes from every state (R155). -/
theorem exec_lcCollapse (s : State) : exec .lcCollapse s = .next (lcCollapse s) := rfl

/-- Settles O20: the two cases of a symbol, and the four rows evaluated. -/
theorem symbolsDecode : Obligations.SymbolsDecode := by
  refine ⟨rfl, rfl, rfl, rfl, rfl, fun s => ⟨fun a b => ?_, rfl, rfl, rfl, rfl⟩⟩
  exact ⟨_, rfl, rfl, fun heq => if_pos heq, fun hne => if_neg hne⟩

/-- Settles O22: LC.COLLAPSE writes `PB` alone. -/
theorem lcCollapseKeepsFirstSamples : Obligations.LcCollapseKeepsFirstSamples :=
  ⟨rfl, fun s => (does_iff_of_exec (exec_lcCollapse s)).2 ⟨rfl, fun k => collapse_getElem s.win k.val k.isLt⟩⟩

/-- Settles O24: the two branches of LC.DECODE on the flag LC.VALIDATE leaves. -/
theorem lcDecodeIsItsExpansion : Obligations.LcDecodeIsItsExpansion := by
  refine ⟨rfl, fun s => ?_⟩
  rw [does_iff_of_exec (exec_lcDecode s), does_iff_of_exec (exec_lcValidate s), does_iff_of_exec (exec_lcCollapse _),
    does_iff_of_exec (exec_lcPack _)]
  exact ⟨fun hviolation => if_pos hviolation, fun hlegal => if_neg (Bool.eq_false_iff.1 hlegal)⟩

/-- The window of a frame is decoded to the frame (R93, R159). -/
theorem lcDecode_of_windowOf {s : State} {raw : Vector Byte 29} (h : s.win = windowOf raw) :
    lcDecode s = { s with lcerr := false, pb := collapse s.win, raw := raw, failure := none } := by
  have hlegal : lineCodeError s.win = false := h ▸ lineCodeError_windowOf raw
  have hframe : frameOf s.win = raw := h ▸ frameOf_windowOf raw
  rw [lcDecode_of_legal hlegal, hframe]

/-- Settles O25: the line code of a frame is legal, and collapsing and packing it give the frame back. -/
theorem lcDecodeInvertsTheLineCode : Obligations.LcDecodeInvertsTheLineCode := by
  intro s raw h
  rw [does_iff_of_exec (exec_lcDecode s), lcDecode_of_windowOf h]
  exact ⟨rfl, rfl, rfl⟩

/-- Bit `j` of byte `m` of the frame of a window is the first sample of its symbol (R155, R157). -/
theorem frameOf_getMsbD (win : BitVec 464) (m j : Nat) (hm : m < 29) (hj : j < 8) :
    (frameOf win)[m].getMsbD j = win[2 * (8 * m + j)] := by
  rw [← collapse_getElem win (8 * m + j) (by omega), ← packByte_getMsbD (collapse win) ⟨m, hm⟩ j hj,
    ← packFrame_getElem (collapse win) m hm, frameOf]

/-- A legal window is the line code of its frame: the second sample of a legal symbol is the complement of the first
(R93, R153). -/
theorem windowOf_frameOf {win : BitVec 464} (h : lineCodeError win = false) : windowOf (frameOf win) = win := by
  have hpair (k : Nat) (hk : k < 232) : win[2 * k] ≠ win[2 * k + 1] := fun heq => by
    rw [(lineCodeError_iff win).2 ⟨⟨k, hk⟩, heq⟩] at h
    cases h
  ext k hk
  obtain ⟨heven, hodd⟩ := windowOf_getElem (frameOf win) (k / 16) (k / 2 % 8) (by omega) (by omega)
  rw [frameOf_getMsbD win (k / 16) (k / 2 % 8) (by omega) (by omega)] at heven hodd
  have hplace : 8 * (k / 16) + k / 2 % 8 = k / 2 := by omega
  simp only [hplace] at heven hodd
  obtain hk2 | hk2 : 2 * (k / 2) = k ∨ 2 * (k / 2) + 1 = k := by omega
  · simpa only [hk2] using heven
  · have hcomplement : (!win[2 * (k / 2)]) = win[2 * (k / 2) + 1] :=
      Bool.not_eq.2 (hpair (k / 2) (by omega))
    simpa only [hk2] using hodd.trans hcomplement

/-- Settles O26: a legal window is the image of its frame, and of no other; any other window violates the line code. -/
theorem lcDecodeAcceptsOnlyImages : Obligations.LcDecodeAcceptsOnlyImages := by
  intro s
  rw [does_iff_of_exec (exec_lcDecode s)]
  have honly (raw : Vector Byte 29) (h : s.win = windowOf raw) : (lcDecode s).raw = raw := by
    rw [lcDecode_of_windowOf h]
  cases hlc : lineCodeError s.win with
  | false =>
    have himage : s.win = windowOf (frameOf s.win) := (windowOf_frameOf hlc).symm
    have hnone : (lcDecode s).failure = none := by rw [lcDecode_of_legal hlc]
    exact ⟨iff_of_true hnone ⟨_, himage⟩, fun _ => honly, fun hne => absurd hnone hne⟩
  | true =>
    have hsome : (lcDecode s).failure ≠ none := by
      rw [lcDecode_of_violation hlc]; exact Option.some_ne_none _
    refine ⟨iff_of_false hsome ?_, fun _ => honly, fun _ => lcDecode_of_violation hlc⟩
    rintro ⟨raw, h⟩
    rw [h, lineCodeError_windowOf] at hlc
    cases hlc

end Sys2Proof.Machine

/-! ## The identifier as text, and the bits of a record -/

namespace Sys2Proof.Machine

/-- FX.IDHEX completes from every state (R222). -/
theorem exec_fxIdhex (s : State) : exec .fxIdhex s = .next (fxIdhex s) := rfl

/-- The sixteen digits (R105). -/
theorem hexDigit_eq_getD (n : BitVec 4) :
    hexDigit n =
      ['0', '1', '2', '3', '4', '5', '6', '7', '8', '9', 'a', 'b', 'c', 'd', 'e', 'f'].getD n.toNat ' ' := by
  revert n
  decide

/-- Nibble `j` of an identifier as a number. -/
theorem nibble_toNat (id : BitVec 24) (j : Nat) : (id.extractLsb' (4 * j) 4).toNat = id.toNat / 16 ^ j % 16 := by
  rw [BitVec.extractLsb'_toNat, Nat.shiftRight_eq_div_pow, Nat.pow_mul]

/-- Settles O44: digit `k` is nibble `5 - k` of the identifier. -/
theorem fxIdhexRendersSixDigits : Obligations.FxIdhexRendersSixDigits := by
  refine ⟨rfl, fun s => (does_iff_of_exec (exec_fxIdhex s)).2 ⟨rfl, fun k => ?_⟩⟩
  rw [← nibble_toNat, ← hexDigit_eq_getD, fxIdhex]
  unfold idText
  exact Vector.getElem_ofFn k.isLt

/-- A field of a byte depends on its bits alone. -/
theorem extractLsb'_congr {w : Nat} {x y : BitVec w} {start len : Nat}
    (h : ∀ j, start ≤ j → j < start + len → x.getLsbD j = y.getLsbD j) :
    x.extractLsb' start len = y.extractLsb' start len := by
  refine BitVec.eq_of_getLsbD_eq fun j hj => ?_
  rw [BitVec.getLsbD_extractLsb', BitVec.getLsbD_extractLsb', h (start + j) (by omega) (by omega)]

/-- The record depends on the bits the nine extractions take (R232). -/
theorem extractRecord_congr {raw raw' : Vector Byte 29}
    (hbyte : ∀ k : Fin 29,
      3 ≤ k.val → k.val ≤ 22 → k.val ≠ 6 → k.val ≠ 13 → k.val ≠ 14 → raw'[k] = raw[k])
    (hspeed : ∀ j, 1 ≤ j → j < 8 → raw'[13].getLsbD j = raw[13].getLsbD j)
    (hflags : ∀ j, 2 ≤ j → j < 8 → j ≠ 6 → raw'[14].getLsbD j = raw[14].getLsbD j)
    (hmult : ∀ j, 6 ≤ j → j < 8 → raw'[24].getLsbD j = raw[24].getLsbD j) :
    extractRecord raw' = extractRecord raw := by
  have htelem (a : Fin 24) (hlast : a.val ≤ 19) (h3 : a.val ≠ 3) (h10 : a.val ≠ 10) (h11 : a.val ≠ 11) :
      telem raw' a = telem raw a :=
    hbyte ⟨3 + a.val, by omega⟩ (by simp) (by simp; omega) (by simp; omega) (by simp; omega) (by simp; omega)
  have hmag : vsMag raw' = vsMag raw := by
    rw [vsMag, vsMag, htelem 9 (by decide) (by decide) (by decide) (by decide)]
    exact congrArg (· ++ _) (extractLsb'_congr hspeed)
  have hmultiplier : vsMult raw' = vsMult raw := extractLsb'_congr hmult
  unfold extractRecord
  congr 1
  case e_id =>
    unfold fieldId
    rw [htelem 0, htelem 1, htelem 2] <;> decide
  case e_lat =>
    unfold fieldLat
    rw [htelem 4, htelem 5] <;> decide
  case e_lon =>
    unfold fieldLon
    rw [htelem 6, htelem 7] <;> decide
  case e_alt =>
    unfold fieldAlt
    rw [htelem 8, htelem 9] <;> decide
  case e_vs =>
    unfold fieldVs
    rw [hmag, hmultiplier]
  case e_stealth =>
    unfold fieldStealth
    exact hflags 7 (by decide) (by decide) (by decide)
  case e_type =>
    unfold fieldType
    exact extractLsb'_congr fun j hlow hhigh => hflags j hlow (by omega) (by omega)
  case e_ns =>
    unfold fieldNs
    congr 1
    funext k
    rw [htelem] <;> simp <;> omega
  case e_ew =>
    unfold fieldEw
    congr 1
    funext k
    rw [htelem] <;> simp <;> omega

/-- Settles O50: the record of FX.FRAME is that of the bytes it takes. -/
theorem unextractedBitsAreIgnored : Obligations.UnextractedBitsAreIgnored := by
  intro s raw hbyte hspeed hflags hmult
  rw [does_iff_of_exec (exec_fxFrame s), does_iff_of_exec (exec_fxFrame _)]
  exact extractRecord_congr hbyte hspeed hflags hmult

end Sys2Proof.Machine

/-! ## The checksum of a frame -/

namespace Sys2Proof.Machine

/-! ### The payload bits in order of arrival -/

/-- The register of a frame, bit by bit (R174, R178). -/
theorem crcOfFrame_eq_foldl_bits (raw : Vector Byte 29) :
    crcOfFrame raw = (bitsOfBytes raw.toList).foldl crcStep crcInitValue := by
  rw [foldl_bitsOfBytes]
  unfold crcOfFrame
  rfl

/-- The bits of the bytes LC.PACK makes are the payload bits in their order (R64, R157). -/
theorem bitsOfBytes_packFrame (pb : BitVec 232) :
    bitsOfBytes (packFrame pb).toList = List.ofFn fun k : Fin 232 => pb[k] := by
  refine List.ext_getElem? fun k => ?_
  by_cases hk : k < 232
  · have hbit := bitsOfBytes_getElem? (packFrame pb).toList (k / 8) (k % 8) (Nat.mod_lt k (by decide))
    have hbyte : (packFrame pb).toList[k / 8]? = some (packByte pb ⟨k / 8, by omega⟩) := by
      rw [List.getElem?_eq_getElem (by simp; omega), Vector.getElem_toList, packFrame_getElem]
    rw [hbyte, Option.map_some, packByte_getMsbD _ _ _ (Nat.mod_lt k (by decide))] at hbit
    simp only [Nat.div_add_mod] at hbit
    rw [hbit, List.getElem?_ofFn, dif_pos hk]
    rfl
  · have hk : 232 ≤ k := Nat.le_of_not_lt hk
    rw [List.getElem?_eq_none (by rwa [length_bitsOfBytes, Vector.length_toList]),
      List.getElem?_eq_none (by rwa [List.length_ofFn])]

/-- The register of a state after CRC.BIT over the first `k` bits of a message from the initial value. -/
def crcBits (bits : List Bool) (s : State) (k : Nat) : State :=
  { s with crc := (bits.take k).foldl crcStep crcInitValue }

/-- CRC.BIT takes in the next bit of the message. -/
theorem crcBit_crcBits {bits : List Bool} {k : Nat} (hk : k < bits.length) (s : State) :
    crcBit bits[k] (crcBits bits s k) = crcBits bits s (k + 1) := by
  simp only [crcBits, List.take_succ_eq_append_getElem hk, List.foldl_concat, crcBit]

/-- Settles O30: the bytes of LC.PACK, taken bit by bit, are the payload bits in turn. -/
theorem crcSeesBitsInOrderOfArrival : Obligations.CrcSeesBitsInOrderOfArrival := by
  intro s
  rw [does_iff_of_exec (exec_lcPack s), does_iff_of_exec (exec_crcCheck _)]
  generalize hbits : (List.ofFn fun k : Fin 232 => s.pb[k]) = bits
  have hlen : bits.length = 232 := by rw [← hbits, List.length_ofFn]
  refine ⟨crcBits bits s, rfl, fun k => ?_, ?_⟩
  · have hbit : s.pb[k] = bits[k.val] := by subst hbits; rw [List.getElem_ofFn]
    rw [hbit, exec_crcBit, crcBit_crcBits]
  · have hall : bits.take 232 = bits := List.take_of_length_le (by omega)
    rw [crcCheck_crc, lcPack_raw, crcBits, hall, ← hbits, ← bitsOfBytes_packFrame, ← crcOfFrame_eq_foldl_bits]
    unfold residue
    rfl

/-! ### Linearity and single-bit errors -/

/-- CRC.BYTE is linear over XOR. -/
theorem crcByteStep_xor (a b : Half) (x y : Byte) :
    crcByteStep (a ^^^ b) (x ^^^ y) = crcByteStep a x ^^^ crcByteStep b y := by
  unfold crcByteStep
  simp only [List.foldl_cons, List.foldl_nil, BitVec.getLsbD_xor, crcStep_xor]

/-- CRC.BYTE over three messages of the same length, byte by byte. -/
theorem foldl_crcByteStep_xor {ι : Type} (indices : List ι) (f g h : ι → Byte) (a b c : Half) :
    (indices.map fun k => f k ^^^ g k ^^^ h k).foldl crcByteStep (a ^^^ b ^^^ c) =
      (indices.map f).foldl crcByteStep a ^^^ (indices.map g).foldl crcByteStep b ^^^
        (indices.map h).foldl crcByteStep c := by
  induction indices generalizing a b c with
  | nil => rfl
  | cons k indices ih => simp only [List.map_cons, List.foldl_cons, crcByteStep_xor, ih]

/-- The bytes of a frame in the order of their indices. -/
theorem toList_eq_map_finRange (raw : Vector Byte 29) : raw.toList = (List.finRange 29).map fun k => raw[k] := by
  refine List.ext_getElem (by simp) fun k _ _ => ?_
  simp

/-- The check is linear over three frames (R182). -/
theorem residue_xor (a b z : Vector Byte 29) :
    residue (Vector.ofFn fun k : Fin 29 => a[k] ^^^ b[k] ^^^ z[k]) = residue a ^^^ residue b ^^^ residue z := by
  have hsum : (Vector.ofFn fun k : Fin 29 => a[k] ^^^ b[k] ^^^ z[k]).toList =
      (List.finRange 29).map fun k => a[k] ^^^ b[k] ^^^ z[k] := by
    rw [toList_eq_map_finRange]
    simp
  have hinit : crcInitValue ^^^ crcInitValue ^^^ crcInitValue = crcInitValue := by decide
  have hout : crcXorOut ^^^ crcXorOut ^^^ crcXorOut = crcXorOut := by decide
  have hregister := foldl_crcByteStep_xor (List.finRange 29) (fun k => a[k]) (fun k => b[k]) (fun k => z[k])
    crcInitValue crcInitValue crcInitValue
  rw [hinit, ← hsum, ← toList_eq_map_finRange, ← toList_eq_map_finRange, ← toList_eq_map_finRange] at hregister
  unfold residue crcOfFrame
  rw [hregister]
  conv_lhs => rw [← hout]
  ac_rfl

/-- The polynomial has the coefficient 1 at `x^0`, so no value but zero is shifted to zero. -/
theorem crcStep_eq_zero {a : Half} (h : crcStep a false = 0#16) : a = 0#16 := by
  have hbit (i : Nat) (hi : i < 16) := (crcStep_getLsbD a false i hi).symm.trans (congrArg (·.getLsbD i) h)
  have htop : a.getLsbD 15 = false := by simpa [crcPoly] using hbit 0 (by decide)
  refine BitVec.eq_of_getLsbD_eq fun i hi => ?_
  by_cases hi15 : i = 15
  · rw [hi15, htop, BitVec.getLsbD_zero]
  · have hshift := hbit (i + 1) (by omega)
    simp only [htop, Bool.false_and, Bool.xor_false, Nat.succ_ne_zero, if_false, Nat.add_sub_cancel] at hshift
    exact hshift.trans (BitVec.getLsbD_zero.trans BitVec.getLsbD_zero.symm)

/-- Nor by any number of zero bits. -/
theorem crcZeros_eq_zero {k : Nat} {a : Half} (h : crcZeros k a = 0#16) : a = 0#16 := by
  induction k generalizing a with
  | zero => exact h
  | succ k ih => exact crcStep_eq_zero (ih h)

/-- A message byte with one bit set leaves the empty register non-zero. -/
theorem crcByteStep_single_bit (j : Fin 8) : crcByteStep 0#16 (1#8 <<< j.val) ≠ 0#16 := by
  unfold crcByteStep
  revert j
  decide

/-- Two registers that differ stay different by the shifted difference. -/
theorem foldl_crcByteStep_xor_register (bytes : List Byte) (a d : Half) :
    bytes.foldl crcByteStep (a ^^^ d) = bytes.foldl crcByteStep a ^^^ crcZeros (8 * bytes.length) d := by
  rw [← foldl_bitsOfBytes, ← foldl_bitsOfBytes, BitVec.xor_comm a, foldl_crcStep_xor, length_bitsOfBytes,
    BitVec.xor_comm]

/-- A changed byte of a message changes the register, when the change alone does. -/
theorem foldl_crcByteStep_changed_ne {e : Byte} (he : crcByteStep 0#16 e ≠ 0#16) (first rest : List Byte) (b : Byte)
    (a : Half) :
    (first ++ (b ^^^ e) :: rest).foldl crcByteStep a ≠ (first ++ b :: rest).foldl crcByteStep a := by
  have hbyte (c : Half) : crcByteStep c (b ^^^ e) = crcByteStep c b ^^^ crcByteStep 0#16 e := by
    rw [← crcByteStep_xor, BitVec.xor_zero]
  intro heq
  rw [List.foldl_append, List.foldl_append, List.foldl_cons, List.foldl_cons, hbyte,
    foldl_crcByteStep_xor_register] at heq
  exact he (crcZeros_eq_zero (by simpa using heq))

/-- The bytes of a frame with one byte set. -/
theorem toList_set_byte (raw : Vector Byte 29) (m : Fin 29) (b : Byte) :
    (raw.set m.val b).toList = raw.toList.take m.val ++ b :: raw.toList.drop (m.val + 1) := by
  rw [Vector.toList_set, List.set_eq_take_append_cons_drop, if_pos (by simp)]

/-- Flipping one bit of one byte changes the residue (R182). -/
theorem residue_flip_ne (raw : Vector Byte 29) (m : Fin 29) (j : Fin 8) :
    residue (raw.set m.val (raw[m] ^^^ (1#8 <<< j.val))) ≠ residue raw := by
  have hself : raw.toList = raw.toList.take m.val ++ raw[m] :: raw.toList.drop (m.val + 1) := by
    rw [← toList_set_byte]
    simp
  have hne := foldl_crcByteStep_changed_ne (crcByteStep_single_bit j) (raw.toList.take m.val)
    (raw.toList.drop (m.val + 1)) raw[m] crcInitValue
  rw [← toList_set_byte, ← hself] at hne
  unfold residue crcOfFrame
  exact fun heq => hne ((BitVec.xor_left_inj _).1 heq)

/-- Settles O34: a valid frame has residue zero, and a flipped bit another residue. -/
theorem singleBitErrorsAreDetected : Obligations.SingleBitErrorsAreDetected := by
  refine ⟨fun s m j hvalid => ?_, fun s a b z => ?_⟩
  · rw [does_iff_of_exec (exec_crcCheck s), crcCheck_crcok, residueIsZero_iff] at hvalid
    have hne := residue_flip_ne s.raw m j
    rw [hvalid] at hne
    refine (does_iff_of_exec (exec_crcCheck _)).2 ⟨?_, hne⟩
    rw [crcCheck_crcok, ← Bool.not_eq_true, residueIsZero_iff]
    exact hne
  · rw [does_iff_of_exec (exec_crcCheck _), does_iff_of_exec (exec_crcCheck _), does_iff_of_exec (exec_crcCheck _),
      does_iff_of_exec (exec_crcCheck _)]
    exact residue_xor a b z

/-! ### The trailing bytes -/

/-- The register of a message and two bytes more: the message shifted through by 16 bits, and the two bytes. -/
theorem foldl_crcByteStep_trailer (message : List Byte) (c a : Half) :
    (message ++ [c.extractLsb' 8 8, c.extractLsb' 0 8]).foldl crcByteStep a =
      crcZeros 16 (message.foldl crcByteStep a) ^^^ c := by
  rw [List.foldl_append, ← foldl_bitsOfBytes [c.extractLsb' 8 8, c.extractLsb' 0 8], foldl_crcStep_eq,
    foldl_crcStep_checkValue, length_bitsOfBytes]
  rfl

/-- The bytes of a frame: the first 27 and the two trailing ones. -/
theorem toList_eq_take_append (raw : Vector Byte 29) : raw.toList = raw.toList.take 27 ++ [raw[27], raw[28]] := by
  have hdrop : raw.toList.drop 27 = [raw[27], raw[28]] := by
    rw [List.drop_eq_getElem_cons (by simp), List.drop_eq_getElem_cons (by simp), List.drop_of_length_le (by simp)]
    simp
  rw [← hdrop, List.take_append_drop]

/-- A frame passes exactly when its trailing bytes are those of the sealed frame (R181). -/
theorem residue_eq_zero_iff (raw : Vector Byte 29) :
    residue raw = 0 ↔
      raw[27] = (crcDirect (raw.toList.take 27)).extractLsb' 8 8 ∧
      raw[28] = (crcDirect (raw.toList.take 27)).extractLsb' 0 8 := by
  constructor
  · intro hzero
    have hhigh : (raw[27] ++ raw[28]).extractLsb' 8 8 = raw[27] :=
      (extractLsb'_append_byte_succ _ _ 0).trans BitVec.extractLsb'_eq_self
    have hlow : (raw[27] ++ raw[28]).extractLsb' 0 8 = raw[28] := extractLsb'_append_byte _ _
    have hraw := foldl_crcByteStep_trailer (raw.toList.take 27) (raw[27] ++ raw[28]) crcInitValue
    rw [hhigh, hlow, ← toList_eq_take_append] at hraw
    have hsealed := foldl_crcByteStep_trailer (raw.toList.take 27) (crcDirect (raw.toList.take 27)) crcInitValue
    rw [← toList_sealFrame] at hsealed
    have hsame := hzero.trans (residue_sealFrame raw).symm
    unfold residue crcOfFrame at hsame
    rw [BitVec.xor_left_inj, hraw, hsealed, BitVec.xor_right_inj] at hsame
    rw [← hsame]
    exact ⟨hhigh.symm, hlow.symm⟩
  · rintro ⟨hhigh, hlow⟩
    have hlist : (sealFrame raw).toList = raw.toList := by
      rw [toList_sealFrame, ← hhigh, ← hlow, ← toList_eq_take_append]
    rw [← Vector.toList_inj.1 hlist]
    exact residue_sealFrame raw

/-- Settles O33: the flag says that the residue is zero. -/
theorem framePassesIffTrailerIsCheckValue : Obligations.FramePassesIffTrailerIsCheckValue := by
  intro s
  rw [does_iff_of_exec (exec_crcCheck s), crcCheck_crcok, residueIsZero_iff]
  exact residue_eq_zero_iff s.raw

end Sys2Proof.Machine

/-! ## The checksum as a polynomial remainder -/

namespace Sys2Proof.Machine

open Polynomial

/-! ### The register and the message as polynomials -/

/-- The coefficient of a bit. -/
noncomputable def bitCoeff (b : Bool) : (ZMod 2)[X] := if b then 1 else 0

/-- The register as a polynomial: bit `k` is the coefficient of `x^k` (R180). -/
noncomputable def registerPoly (c : Half) : (ZMod 2)[X] := ∑ k ∈ Finset.range 16, if c.getLsbD k then X ^ k else 0

/-- The message as a polynomial: its last bit is the coefficient of `x^0` (R180). -/
noncomputable def messagePoly (bits : List Bool) : (ZMod 2)[X] :=
  ∑ k ∈ Finset.range bits.length, if bits.getD k false then X ^ (bits.length - 1 - k) else 0

/-- `x^16 + x^12 + x^5 + 1` (R180). -/
noncomputable def crcModulus : (ZMod 2)[X] := X ^ 16 + X ^ 12 + X ^ 5 + 1

theorem crcModulus_monic : crcModulus.Monic := by
  unfold crcModulus
  monicity!

theorem crcModulus_degree : crcModulus.degree = 16 := by
  unfold crcModulus
  compute_degree!

/-- The register has degree below 16. -/
theorem registerPoly_degree_lt (c : Half) : (registerPoly c).degree < crcModulus.degree := by
  rw [crcModulus_degree]
  refine mem_degreeLT.1 (Submodule.sum_mem _ fun k hk => mem_degreeLT.2 ?_)
  split
  · rw [degree_X_pow]
    exact_mod_cast Finset.mem_range.1 hk
  · rw [degree_zero]
    exact WithBot.bot_lt_coe _

/-- XOR of registers is addition of polynomials. -/
theorem registerPoly_xor (a b : Half) : registerPoly (a ^^^ b) = registerPoly a + registerPoly b := by
  rw [registerPoly, registerPoly, registerPoly, ← Finset.sum_add_distrib]
  refine Finset.sum_congr rfl fun k _ => ?_
  rw [BitVec.getLsbD_xor]
  cases a.getLsbD k <;> cases b.getLsbD k <;> simp [CharTwo.add_self_eq_zero]

/-- The low coefficients of the modulus are `CRC_POLY`. -/
theorem crcModulus_eq : crcModulus = X ^ 16 + registerPoly crcPoly := by
  simp [crcModulus, registerPoly, Finset.sum_range_succ, crcPoly]
  ring

/-- Shifting a message bit in multiplies by `x` and adds the bit, but for the coefficient that leaves at `x^16`. -/
theorem registerPoly_shiftIn (c : Half) (d : Bool) :
    registerPoly (c.extractLsb' 0 15 ++ BitVec.ofBool d) + X ^ 16 * bitCoeff (c.getLsbD 15) =
      X * registerPoly c + bitCoeff d := by
  have hlow : registerPoly (c.extractLsb' 0 15 ++ BitVec.ofBool d) =
      X * (∑ k ∈ Finset.range 15, if c.getLsbD k then X ^ k else 0) + bitCoeff d := by
    rw [registerPoly, Finset.sum_range_succ', Finset.mul_sum]
    refine congrArg₂ _ (Finset.sum_congr rfl fun k hk => ?_) ?_
    · rw [shiftIn_getLsbD c d (k + 1) (by have := Finset.mem_range.1 hk; omega)]
      simp [pow_succ', mul_ite]
    · rw [shiftIn_getLsbD c d 0 (by decide)]
      simp [bitCoeff]
  have hregister : registerPoly c =
      (∑ k ∈ Finset.range 15, if c.getLsbD k then X ^ k else 0) + X ^ 15 * bitCoeff (c.getLsbD 15) := by
    rw [registerPoly, Finset.sum_range_succ, bitCoeff, mul_ite, mul_one, mul_zero]
  rw [hlow, hregister]
  ring

/-- A step of the register multiplies by `x` and adds the message bit, modulo the polynomial (R172, R180). -/
theorem registerPoly_crcStep (c : Half) (d : Bool) :
    registerPoly (crcStep c d) + crcModulus * bitCoeff (c.getLsbD 15) = X * registerPoly c + bitCoeff d := by
  rw [← registerPoly_shiftIn, crcStep]
  cases c.getLsbD 15
  · simp [bitCoeff]
  · rw [if_pos rfl, registerPoly_xor, crcModulus_eq, add_mul, add_comm (X ^ 16 * _), add_assoc]
    simp [bitCoeff, ← add_assoc, CharTwo.add_self_eq_zero]

/-- One bit more multiplies the message by `x` and adds the bit. -/
theorem messagePoly_concat (bits : List Bool) (d : Bool) :
    messagePoly (bits ++ [d]) = X * messagePoly bits + bitCoeff d := by
  rw [messagePoly, messagePoly, List.length_append, List.length_singleton, Finset.sum_range_succ, Finset.mul_sum]
  refine congrArg₂ _ (Finset.sum_congr rfl fun k hk => ?_) ?_
  · have hk : k < bits.length := Finset.mem_range.1 hk
    rw [List.getD_append _ _ _ _ hk, show bits.length + 1 - 1 - k = bits.length - 1 - k + 1 by omega, pow_succ',
      mul_ite, mul_zero]
  · simp [bitCoeff]

/-- What the register of a message should be, before the reduction (R180). -/
noncomputable def crcDividend (bits : List Bool) : (ZMod 2)[X] :=
  registerPoly crcInitValue * X ^ bits.length + messagePoly bits

theorem crcDividend_concat (bits : List Bool) (d : Bool) :
    crcDividend (bits ++ [d]) = X * crcDividend bits + bitCoeff d := by
  rw [crcDividend, crcDividend, messagePoly_concat, List.length_append, List.length_singleton, pow_succ]
  ring

/-- The register after a message is the remainder of its dividend (R180). -/
theorem registerPoly_foldl (bits : List Bool) :
    registerPoly (bits.foldl crcStep crcInitValue) = crcDividend bits %ₘ crcModulus := by
  induction bits using List.reverseRecOn with
  | nil =>
    have hself := (modByMonic_eq_self_iff crcModulus_monic).2 (registerPoly_degree_lt crcInitValue)
    simpa [crcDividend, messagePoly] using hself.symm
  | append_singleton bits d ih =>
    rw [List.foldl_concat]
    generalize bits.foldl crcStep crcInitValue = c at ih
    have hdivision := modByMonic_add_div (crcDividend bits) crcModulus
    refine (div_modByMonic_unique (X * (crcDividend bits /ₘ crcModulus) + bitCoeff (c.getLsbD 15)) _
      crcModulus_monic ⟨?_, registerPoly_degree_lt _⟩).2.symm
    calc registerPoly (crcStep c d) +
          crcModulus * (X * (crcDividend bits /ₘ crcModulus) + bitCoeff (c.getLsbD 15))
        = registerPoly (crcStep c d) + crcModulus * bitCoeff (c.getLsbD 15) +
            X * (crcModulus * (crcDividend bits /ₘ crcModulus)) := by ring
      _ = X * (crcDividend bits %ₘ crcModulus + crcModulus * (crcDividend bits /ₘ crcModulus)) + bitCoeff d := by
          rw [registerPoly_crcStep, ih]; ring
      _ = crcDividend (bits ++ [d]) := by rw [hdivision, crcDividend_concat]

/-- Settles O32: the register's polynomial is the remainder, by induction on the message. -/
theorem crcIsPolynomialRemainder : Obligations.CrcIsPolynomialRemainder := fun bits => registerPoly_foldl bits

end Sys2Proof.Machine

/-! ## Encryption, write-back and the two regions -/

namespace Sys2Proof.Machine

/-! ### Rounds undo each other -/

theorem droundBlock_eroundBlock (key : Key) (b : Block) : droundBlock key (eroundBlock key b) = b := by
  simp only [droundBlock, eroundBlock, add_sub_cancel_right]

theorem eroundBlock_droundBlock (key : Key) (b : Block) : eroundBlock key (droundBlock key b) = b := by
  simp only [droundBlock, eroundBlock, sub_add_cancel]

theorem repeatRound_eq_iterate (round : Block → Block) (n : Nat) : repeatRound round n = round^[n] := by
  induction n with
  | zero => rfl
  | succ n ih => rw [Function.iterate_succ, ← ih]; rfl

/-- Rounds that are undone by others are undone when repeated. -/
theorem repeatRound_repeatRound {undo round : Block → Block} (h : Function.LeftInverse undo round) (n : Nat)
    (b : Block) : repeatRound undo n (repeatRound round n b) = b := by
  rw [repeatRound_eq_iterate, repeatRound_eq_iterate]
  exact h.iterate n b

/-- Decryption ends with the sum 0 that encryption starts with, so encryption goes the same rounds back (R208). -/
theorem encBlock_decBlock (key : Key) (rounds : Nat) (v0 v1 : Word) :
    encBlock key rounds (decBlock key rounds v0 v1).v0 (decBlock key rounds v0 v1).v1 =
      { v0 := v0, v1 := v1, sum := startSum rounds } := by
  have hstart : (⟨(decBlock key rounds v0 v1).v0, (decBlock key rounds v0 v1).v1, 0⟩ : Block) =
      decBlock key rounds v0 v1 := by rw [← decBlock_sum key rounds v0 v1]
  unfold encBlock
  rw [hstart]
  unfold decBlock
  exact repeatRound_repeatRound (eroundBlock_droundBlock key) rounds _

/-- Encryption ends with the sum that decryption starts with, so decryption goes the same rounds back (R208). -/
theorem decBlock_encBlock (key : Key) (rounds : Nat) (v0 v1 : Word) :
    decBlock key rounds (encBlock key rounds v0 v1).v0 (encBlock key rounds v0 v1).v1 =
      { v0 := v0, v1 := v1, sum := 0 } := by
  have hstart : (⟨(encBlock key rounds v0 v1).v0, (encBlock key rounds v0 v1).v1, startSum rounds⟩ : Block) =
      encBlock key rounds v0 v1 := by rw [← encBlock_sum key rounds v0 v1]
  unfold decBlock
  rw [hstart]
  unfold encBlock
  exact repeatRound_repeatRound (droundBlock_eroundBlock key) rounds _

/-- Settles O39: each operation hands the other the block it began with. -/
theorem encryptionAndDecryptionAreInverse : Obligations.EncryptionAndDecryptionAreInverse := by
  intro s key rounds
  rw [does_iff_of_exec (exec_xteaDec key rounds s), does_iff_of_exec (exec_xteaEnc key rounds _),
    does_iff_of_exec (exec_xteaEnc key rounds s), does_iff_of_exec (exec_xteaDec key rounds _)]
  have henc := encBlock_decBlock (keyFile s.cfg key) rounds s.v0 s.v1
  have hdec := decBlock_encBlock (keyFile s.cfg key) rounds s.v0 s.v1
  exact ⟨⟨congrArg Block.v0 henc, congrArg Block.v1 henc⟩, congrArg Block.v0 hdec, congrArg Block.v1 hdec⟩

/-! ### The write-back -/

/-- Byte `k` of a written region, by its place in the region. -/
theorem writeRegion_at (raw : Vector Byte 29) (o : Fin 22) (v : Fin 8 → Byte) {k : Nat} (hk : k < 29) (j : Fin 8)
    (h : k = o.val + j.val) : (writeRegion raw o v)[k] = v j := by
  subst h
  exact writeRegion_inside raw o v j

section
variable (v0 v1 : Word) (j : Fin 4)

/-- `REV_WORD`: each word with its most significant byte first, `V0` first (R200). -/
theorem wbByte_revWord :
    wbByte .revWord v0 v1 ⟨3 - j.val, by omega⟩ = wordByte v0 j.val ∧
    wbByte .revWord v0 v1 ⟨7 - j.val, by omega⟩ = wordByte v1 j.val := by
  unfold wbByte
  fin_cases j <;> exact ⟨rfl, rfl⟩

/-- `REV_BLOCK`: each word with its most significant byte first, `V1` first (R200). -/
theorem wbByte_revBlock :
    wbByte .revBlock v0 v1 ⟨7 - j.val, by omega⟩ = wordByte v0 j.val ∧
    wbByte .revBlock v0 v1 ⟨3 - j.val, by omega⟩ = wordByte v1 j.val := by
  unfold wbByte
  fin_cases j <;> exact ⟨rfl, rfl⟩

/-- `NATURAL`: each word with its least significant byte first, `V0` first (R200, log 9). -/
theorem wbByte_natural :
    wbByte .natural v0 v1 ⟨j.val, by omega⟩ = wordByte v0 j.val ∧
    wbByte .natural v0 v1 ⟨4 + j.val, by omega⟩ = wordByte v1 j.val := by
  unfold wbByte
  fin_cases j <;> exact ⟨rfl, rfl⟩

end

/-- Byte `k` of the frame after XTEA.WB, by its place in the region and the order of the bytes (R200). -/
theorem xteaWb_raw_at {s : State} {o : Fin 22} {k : Nat} (hk : k < 29) {j : Fin 8} (hplace : k = o.val + j.val)
    {order : WbOrder} (horder : s.cfg.wbOrder = order) {b : Byte} (hb : wbByte order s.v0 s.v1 j = b) :
    (xteaWb o s).raw[k] = b := by
  rw [← hb, ← horder]
  exact writeRegion_at s.raw o _ hk j hplace

/-- Settles O40: the region gets the bytes of the order, place by place. -/
theorem xteaWbWritesTheRegion : Obligations.XteaWbWritesTheRegion := by
  refine ⟨rfl, fun s o ho => (does_iff_of_exec (exec_xteaWb ho s)).2
    ⟨rfl, writeRegion_outside s.raw ⟨o, Nat.lt_succ_of_le ho⟩ _, fun horder j => ?_, fun horder j => ?_,
      fun horder j => ?_⟩⟩
  · obtain ⟨hfirst, hsecond⟩ := wbByte_revWord s.v0 s.v1 j
    exact ⟨xteaWb_raw_at _ (by simp only; omega) horder hfirst,
      xteaWb_raw_at _ (by simp only; omega) horder hsecond⟩
  · obtain ⟨hfirst, hsecond⟩ := wbByte_revBlock s.v0 s.v1 j
    exact ⟨xteaWb_raw_at _ (by simp only; omega) horder hfirst,
      xteaWb_raw_at _ (by simp only; omega) horder hsecond⟩
  · obtain ⟨hfirst, hsecond⟩ := wbByte_natural s.v0 s.v1 j
    exact ⟨xteaWb_raw_at _ rfl horder hfirst,
      xteaWb_raw_at _ (by simp only; omega) horder hsecond⟩

/-! ### The two regions -/

/-- Two regions with no byte in common. -/
def Disjoint8 (o p : Fin 22) : Prop := o.val + 8 ≤ p.val ∨ p.val + 8 ≤ o.val

/-- The two cipher regions have none (R11). -/
theorem disjoint_regions (c : Config) : Disjoint8 (regionA c) (regionB c) := .inl (Nat.le_refl _)

/-- Writes of regions with no byte in common commute. -/
theorem writeRegion_comm {o p : Fin 22} (h : Disjoint8 o p) (raw : Vector Byte 29) (v w : Fin 8 → Byte) :
    writeRegion (writeRegion raw o v) p w = writeRegion (writeRegion raw p w) o v := by
  unfold Disjoint8 at h
  ext k hk : 1
  by_cases hko : o.val ≤ k ∧ k < o.val + 8
  · rw [writeRegion_outside _ p w ⟨k, hk⟩ (by simp only; omega),
      writeRegion_at _ o v hk ⟨k - o.val, by omega⟩ (by simp only; omega),
      writeRegion_at _ o v hk ⟨k - o.val, by omega⟩ (by simp only; omega)]
  · rw [writeRegion_outside _ o v ⟨k, hk⟩ (by simp only; omega)]
    by_cases hkp : p.val ≤ k ∧ k < p.val + 8
    · rw [writeRegion_at _ p w hk ⟨k - p.val, by omega⟩ (by simp only; omega),
        writeRegion_at _ p w hk ⟨k - p.val, by omega⟩ (by simp only; omega)]
    · rw [writeRegion_outside _ p w ⟨k, hk⟩ (by simp only; omega),
        writeRegion_outside _ p w ⟨k, hk⟩ (by simp only; omega),
        writeRegion_outside _ o v ⟨k, hk⟩ (by simp only; omega)]

/-- The bytes CIPHER.BLOCK writes back for the eight bytes of a region (R194, R198, R200). -/
def decryptBytes (c : Config) (key : KeySel) (b : Fin 8 → Byte) : Fin 8 → Byte :=
  let d := decBlock (keyFile c key) c.rounds (packWord c.byteOrder (b 0) (b 1) (b 2) (b 3))
    (packWord c.byteOrder (b 4) (b 5) (b 6) (b 7))
  wbByte c.wbOrder d.v0 d.v1

/-- CIPHER.BLOCK reads and writes its region alone (R202). -/
theorem decryptRegion_eq (c : Config) (key : KeySel) (o : Fin 22) (raw : Vector Byte 29) :
    decryptRegion c key o raw = writeRegion raw o (decryptBytes c key (regionByte raw o)) := by
  unfold decryptRegion decryptWords
  rfl

/-- Decryptions of regions with no byte in common commute (R203). -/
theorem decryptRegion_comm {o p : Fin 22} (h : Disjoint8 o p) (c : Config) (k l : KeySel) (raw : Vector Byte 29) :
    decryptRegion c k o (decryptRegion c l p raw) = decryptRegion c l p (decryptRegion c k o raw) := by
  simp only [decryptRegion_eq]
  rw [regionByte_writeRegion_of_disjoint raw p o _ h, regionByte_writeRegion_of_disjoint raw o p _ h.symm,
    writeRegion_comm h]

/-- CIPHER.FRAME writes no byte outside the two regions (R203). -/
theorem cipherFrame_raw_outside (s : State) (k : Fin 29)
    (h : k.val < s.cfg.cipherOffA.val ∨ s.cfg.cipherOffA.val + 16 ≤ k.val) :
    (cipherFrame s).raw[k] = s.raw[k] := by
  have ha : k.val < (regionA s.cfg).val ∨ (regionA s.cfg).val + 8 ≤ k.val := by simp only [regionA]; omega
  have hb : k.val < (regionB s.cfg).val ∨ (regionB s.cfg).val + 8 ≤ k.val := by simp only [regionB]; omega
  rw [cipherFrame, cipherBlock_raw_outside _ _ _ k hb, cipherBlock_raw_outside _ _ _ k ha]

/-- Settles O42: the two blocks in turn, which read and write regions with no byte in common. -/
theorem cipherFrameDecryptsTwoRegions : Obligations.CipherFrameDecryptsTwoRegions := by
  refine ⟨rfl, fun s => (does_iff_of_exec (exec_cipherFrame s)).2 ⟨?_, cipherFrame_raw_outside s, ?_, ?_⟩⟩
  · rw [cipherFrame_eq]
  · rw [does_iff_of_exec (exec_cipherBlock (by omega) .a s), does_iff_of_exec (exec_cipherBlock (by omega) .b _)]
    rfl
  · rw [does_iff_of_exec (exec_cipherBlock (by omega) .b s), does_iff_of_exec (exec_cipherBlock (by omega) .a _),
      cipherFrame, cipherBlock_eq, cipherBlock_eq, cipherBlock_eq, cipherBlock_eq]
    exact decryptRegion_comm (disjoint_regions s.cfg).symm s.cfg .b .a s.raw

end Sys2Proof.Machine

/-! ## A built frame, end to end -/

namespace Sys2Proof.Machine

/-! ### A region encrypted and decrypted -/

/-- Words that agree in their four bytes are equal. -/
theorem word_eq_of_bytes {a b : Word} (h : ∀ j : Fin 4, wordByte a j.val = wordByte b j.val) : a = b := by
  refine BitVec.eq_of_getLsbD_eq fun i hi => ?_
  have hbit := congrArg (·.getLsbD (i % 8)) (h ⟨i / 8, by omega⟩)
  simpa only [wordByte, BitVec.getLsbD_extractLsb', Nat.div_add_mod, Nat.mod_lt i (by decide : 0 < 8), decide_true,
    Bool.true_and] using hbit

/-- The bytes of a word, packed little-endian, are the word (R65, R66). -/
theorem le32_wordByte (w : Word) : le32 (wordByte w 0) (wordByte w 1) (wordByte w 2) (wordByte w 3) = w :=
  word_eq_of_bytes (le32_extractLsb' fun j => wordByte w j.val)

/-- Byte `j` of a big-endian word is the byte of index `3 - j` (R65). -/
theorem wordByte_be32 (b : Fin 4 → Byte) (j : Fin 4) : wordByte (be32 (b 0) (b 1) (b 2) (b 3)) j.val = b j.rev :=
  le32_extractLsb' (fun j => b j.rev) j

/-- The bytes an encrypted region holds for eight plaintext bytes (R208, V6). -/
def encryptBytes (key : Key) (rounds : Nat) (p : Fin 8 → Byte) : Fin 8 → Byte :=
  let e := encBlock key rounds (be32 (p 0) (p 1) (p 2) (p 3)) (be32 (p 4) (p 5) (p 6) (p 7))
  fun j => if j.val < 4 then wordByte e.v0 j.val else wordByte e.v1 (j.val - 4)

theorem encryptRegion_eq (key : Key) (rounds : Nat) (o : Fin 22) (raw : Vector Byte 29) :
    encryptRegion key rounds o raw = writeRegion raw o (encryptBytes key rounds (regionByte raw o)) := rfl

/-- `REV_WORD` write-back of two big-endian words gives their bytes in order (R200). -/
theorem wbByte_revWord_be32 (p : Fin 8 → Byte) (j : Fin 8) :
    wbByte .revWord (be32 (p 0) (p 1) (p 2) (p 3)) (be32 (p 4) (p 5) (p 6) (p 7)) j = p j := by
  have hfirst (i : Fin 4) := (wbByte_revWord _ (be32 (p 4) (p 5) (p 6) (p 7)) i).1.trans
    (wordByte_be32 (fun i => p (i.castLE (by decide))) i)
  have hsecond (i : Fin 4) := (wbByte_revWord (be32 (p 0) (p 1) (p 2) (p 3)) _ i).2.trans
    (wordByte_be32 (fun i => p (i.natAdd 4)) i)
  match j with
  | 0 => exact hfirst 3
  | 1 => exact hfirst 2
  | 2 => exact hfirst 1
  | 3 => exact hfirst 0
  | 4 => exact hsecond 3
  | 5 => exact hsecond 2
  | 6 => exact hsecond 1
  | 7 => exact hsecond 0

/-- Decryption of an encrypted region gives the plaintext bytes back, under `LE` and `REV_WORD` (R208). -/
theorem decryptBytes_encryptBytes {c : Config} (hle : c.byteOrder = .le) (hrev : c.wbOrder = .revWord) (key : KeySel)
    (p : Fin 8 → Byte) : decryptBytes c key (encryptBytes (keyFile c key) c.rounds p) = p := by
  have hblock : decBlock (keyFile c key) c.rounds
      (packWord .le (encryptBytes (keyFile c key) c.rounds p 0) (encryptBytes (keyFile c key) c.rounds p 1)
        (encryptBytes (keyFile c key) c.rounds p 2) (encryptBytes (keyFile c key) c.rounds p 3))
      (packWord .le (encryptBytes (keyFile c key) c.rounds p 4) (encryptBytes (keyFile c key) c.rounds p 5)
        (encryptBytes (keyFile c key) c.rounds p 6) (encryptBytes (keyFile c key) c.rounds p 7)) =
      { v0 := be32 (p 0) (p 1) (p 2) (p 3), v1 := be32 (p 4) (p 5) (p 6) (p 7), sum := 0 } :=
    (congrArg₂ (decBlock (keyFile c key) c.rounds) (le32_wordByte _) (le32_wordByte _)).trans
      (decBlock_encBlock _ _ _ _)
  funext j
  simp only [decryptBytes, hle, hrev, hblock]
  exact wbByte_revWord_be32 p j

/-! ### The frame as it is sent, and as it is decrypted -/

section
variable (c : Config) (t : Vector Byte 24)

/-- The frame before its trailing bytes are set: both regions of the plaintext frame encrypted. -/
def encryptedFrame : Vector Byte 29 :=
  writeRegion
    (writeRegion (plainFrame c t) (regionA c) (encryptBytes c.keyA c.rounds (regionByte (plainFrame c t) (regionA c))))
    (regionB c) (encryptBytes c.keyB c.rounds (regionByte (plainFrame c t) (regionB c)))

/-- The two encryptions do not meet, so the second takes plaintext bytes too (R11, V6). -/
theorem buildFrame_eq : buildFrame c t = sealFrame (encryptedFrame c t) := by
  rw [buildFrame, encryptRegion_eq, encryptRegion_eq,
    regionByte_writeRegion_of_disjoint _ _ _ _ (disjoint_regions c).symm, encryptedFrame]

/-- Sealing sets the two trailing bytes alone (R181). -/
theorem sealFrame_getElem (raw : Vector Byte 29) {k : Nat} (hk : k < 27) : (sealFrame raw)[k] = raw[k] := by
  have h27 : 27 ≠ k := by omega
  have h28 : 28 ≠ k := by omega
  simp [sealFrame, h27, h28]

/-- A region that ends before the trailing bytes is not touched by sealing. -/
theorem regionByte_sealFrame (raw : Vector Byte 29) {o : Fin 22} (ho : o.val ≤ 19) :
    regionByte (sealFrame raw) o = regionByte raw o :=
  funext fun j => sealFrame_getElem raw (by omega)

/-- Byte `k` of a frame outside both regions is not touched by writes of them. -/
theorem writeRegions_outside (raw : Vector Byte 29) (v w : Fin 8 → Byte) (k : Fin 29)
    (h : k.val < c.cipherOffA.val ∨ c.cipherOffA.val + 16 ≤ k.val) :
    (writeRegion (writeRegion raw (regionA c) v) (regionB c) w)[k.val] = raw[k.val] := by
  rw [writeRegion_outside _ (regionB c) w k (by simp only [regionB]; omega),
    writeRegion_outside _ (regionA c) v k (by simp only [regionA]; omega)]

variable {c}

/-- Decryption of the sent frame writes the plaintext bytes of the two regions (R203, R208). -/
theorem decryptFrame_buildFrame (hle : c.byteOrder = .le) (hrev : c.wbOrder = .revWord)
    (hoff : c.cipherOffA.val ≤ 11) :
    decryptFrame c (buildFrame c t) =
      writeRegion (writeRegion (buildFrame c t) (regionA c) (regionByte (plainFrame c t) (regionA c))) (regionB c)
        (regionByte (plainFrame c t) (regionB c)) := by
  have ha : regionByte (buildFrame c t) (regionA c) =
      encryptBytes c.keyA c.rounds (regionByte (plainFrame c t) (regionA c)) := by
    rw [buildFrame_eq, regionByte_sealFrame _ (by simp only [regionA]; omega), encryptedFrame,
      regionByte_writeRegion_of_disjoint _ _ _ _ (disjoint_regions c), regionByte_writeRegion]
  have hb : regionByte (buildFrame c t) (regionB c) =
      encryptBytes c.keyB c.rounds (regionByte (plainFrame c t) (regionB c)) := by
    rw [buildFrame_eq, regionByte_sealFrame _ (by simp only [regionB]; omega), encryptedFrame, regionByte_writeRegion]
  unfold decryptFrame
  rw [decryptRegion_eq, decryptRegion_eq, regionByte_writeRegion_of_disjoint _ _ _ _ (disjoint_regions c).symm, ha,
    hb]
  exact congrArg₂ (fun v w => writeRegion (writeRegion (buildFrame c t) (regionA c) v) (regionB c) w)
    (decryptBytes_encryptBytes hle hrev .a _) (decryptBytes_encryptBytes hle hrev .b _)

/-- Outside the regions the sent frame holds the plaintext, up to the trailing bytes. -/
theorem buildFrame_outside {k : Nat} (hk : k < 27)
    (h : k < c.cipherOffA.val ∨ c.cipherOffA.val + 16 ≤ k) : (buildFrame c t)[k] = (plainFrame c t)[k] := by
  rw [buildFrame_eq, sealFrame_getElem _ hk, encryptedFrame]
  exact writeRegions_outside c _ _ _ ⟨k, by omega⟩ h

/-- The decrypted frame holds the plaintext, up to the trailing bytes (R208). -/
theorem decryptFrame_buildFrame_getElem (hle : c.byteOrder = .le) (hrev : c.wbOrder = .revWord)
    (hoff : c.cipherOffA.val ≤ 11) {k : Nat} (hk : k < 27) :
    (decryptFrame c (buildFrame c t))[k] = (plainFrame c t)[k] := by
  have hread (o : Fin 22) (ho : o.val ≤ k) (hlt : k < o.val + 8) :
      regionByte (plainFrame c t) o ⟨k - o.val, by omega⟩ = (plainFrame c t)[k] := by
    simp only [regionByte, Nat.add_sub_cancel' ho]
  rw [decryptFrame_buildFrame t hle hrev hoff]
  by_cases hb : (regionB c).val ≤ k ∧ k < (regionB c).val + 8
  · obtain ⟨hlow, hhigh⟩ := hb
    rw [writeRegion_at _ (regionB c) _ (by omega) ⟨k - (regionB c).val, by omega⟩ (by simp only; omega)]
    exact hread (regionB c) hlow hhigh
  · rw [writeRegion_outside _ (regionB c) _ ⟨k, by omega⟩ (by simp only; omega)]
    by_cases ha : (regionA c).val ≤ k ∧ k < (regionA c).val + 8
    · obtain ⟨hlow, hhigh⟩ := ha
      rw [writeRegion_at _ (regionA c) _ (by omega) ⟨k - (regionA c).val, by omega⟩ (by simp only; omega)]
      exact hread (regionA c) hlow hhigh
    · rw [writeRegion_outside _ (regionA c) _ ⟨k, by omega⟩ (by simp only; omega)]
      refine buildFrame_outside t hk ?_
      simp only [regionA, regionB] at ha hb
      omega

/-- The telemetry of the decrypted frame is the plaintext (R208). -/
theorem telemetry_decryptFrame (hle : c.byteOrder = .le) (hrev : c.wbOrder = .revWord)
    (hoff : c.cipherOffA.val ≤ 11) : telemetry (decryptFrame c (buildFrame c t)) = t := by
  ext a ha : 1
  have hplace : ¬3 + a < 3 := by omega
  have hlast : 3 + a < 27 := by omega
  rw [telemetry_getElem _ a ha, decryptFrame_buildFrame_getElem t hle hrev hoff hlast]
  simp [plainFrame, hplace, hlast]

/-- The header of the sent frame is `SYNC24`, most significant byte first (R98). -/
theorem buildFrame_header (hoff : 3 ≤ c.cipherOffA.val) (m : Fin 3) :
    (buildFrame c t)[m.val] = c.sync24.extractLsb' (8 * (2 - m.val)) 8 := by
  rw [buildFrame_outside t (by omega) (.inl (by omega))]
  simp [plainFrame]

/-- The sent frame passes the checksum (R181). -/
theorem residue_buildFrame : residue (buildFrame c t) = 0 := by
  rw [buildFrame_eq]
  exact residue_sealFrame _

end

/-! ### The call -/

/-- Samples that hold a window beginning with the pattern match at offset 0. -/
theorem matchAt_of_window {s : State} {win : BitVec 464} (hbits : ∀ k : Fin 464, sampleBit s k.val = win[k])
    (hp : BeginsWithPattern s.cfg win) : matchAt s 0 = true := by
  refine (matchAt_iff s 0).2 fun q => ?_
  obtain ⟨heven, hodd⟩ := hp q
  rw [Nat.zero_add, ← sampleBit_eq, ← sampleBit_eq]
  exact ⟨(hbits ⟨2 * q.val, by omega⟩).trans heven, (hbits ⟨2 * q.val + 1, by omega⟩).trans hodd⟩

/-- A call on the 464 samples of a window that begins with the pattern emits the record of the window. -/
theorem runCall_frames_of_window {s : State} {win : BitVec 464} (hbits : ∀ k : Fin 464, sampleBit s k.val = win[k])
    (hp : BeginsWithPattern s.cfg win) : (runCall 464 s).frames = windowRecords s.cfg win := by
  have hentry : (setStage .scan (enterCall 464 s)).sample = s.sample := rfl
  have hmatch : matchAt (setStage .scan (enterCall 464 s)) 0 = true :=
    matchAt_of_window (fun k => (sampleBit_congr hentry k.val).trans (hbits k)) hp
  have hwin : (atFirstWindow s).win = win := by
    ext k hk
    refine (windowAt_getElem _ 0 k hk).trans ((sampleBit_congr (s := s) ?_ (0 + k)).trans ?_)
    · rfl
    · rw [Nat.zero_add]
      exact hbits ⟨k, hk⟩
  rw [runCall_of_match_at_zero hmatch, noFailure_frames, setStage_frames, syncConsume_frames, setStage_frames,
    frameProcess_frames, hwin]
  rfl

/-- Settles O60: the sent frame matches at offset 0, its line code is legal, it passes the checksum, and what the cipher
leaves of it is the plaintext. -/
theorem builtFrameIsDecoded : Obligations.BuiltFrameIsDecoded := by
  intro s t hle hrev hlow hhigh hheld hbits
  have hexec := exec_decodeCall_of_le hheld (Nat.le_refl windowBits)
  have hframe : frameOf (windowOf (buildFrame s.cfg t)) = buildFrame s.cfg t := frameOf_windowOf _
  have hrecords : windowRecords s.cfg (windowOf (buildFrame s.cfg t)) =
      [extractRecord (decryptFrame s.cfg (buildFrame s.cfg t))] := by
    rw [windowRecords, hframe, if_pos ⟨lineCodeError_windowOf _, residue_buildFrame t⟩]
  have hfields := extractRecord_fieldsOf (decryptFrame s.cfg (buildFrame s.cfg t))
  rw [telemetry_decryptFrame t hle hrev hhigh] at hfields
  refine (does_iff_of_exec hexec).2 ⟨⟨_, ?_, hfields⟩, consumed_of_exec hexec, stage_of_exec_decodeCall hexec⟩
  rw [← hrecords]
  exact runCall_frames_of_window hbits (windowOf_beginsWithPattern (buildFrame_header t hlow))

end Sys2Proof.Machine
